-- ==== Sys2Proof/Word.lean ====
section
/-! DEFINITION. The words of the machine: bytes, 64-bit registers and lanes, the 1600-bit lane array, command words. -/

namespace Sys2Proof

/-- One byte of a byte string or stream (00_scope.md R13). -/
abbrev Byte := BitVec 8

/-- A 64-bit register or counter (00_scope.md R10, 10_state.md R20). -/
abbrev Reg := BitVec 64

/-- One lane of the sponge state (00_scope.md R9, R19). -/
abbrev Lane := BitVec 64

/-- The 25 lanes of 64 bits of one context, in index order (10_state.md R27, 20_memory.md R41). -/
abbrev Lanes := Vector Lane 25

/-- A command word, format CW (30_encoding.md R53). -/
abbrev CmdWord := BitVec 32

end Sys2Proof
end

