-- ==== Sys2Proof/Machine/Bytes.lean ====
section
/-! DEFINITION. Operations on bytes and byte strings (00_scope.md R12-R14). -/

namespace Sys2Proof.Machine

/-- `zeros(n)` (00_scope.md R13). -/
def zeros (n : Nat) : List Byte := List.replicate n 0

/-- XOR8(B): the XOR of all bytes of B, 0x00 when B is empty (00_scope.md R13). -/
def xor8 (b : List Byte) : Byte := b.foldl (· ^^^ ·) 0

/-- ROL8(b, r) (00_scope.md R14). -/
def rol8 (b : Byte) (r : Nat) : Byte := (b <<< (r % 8)) ||| (b >>> (8 - r % 8))

/-- ROR8(b, r) = ROL8(b, 8 - (r mod 8)) (00_scope.md R14). -/
def ror8 (b : Byte) (r : Nat) : Byte := rol8 b (8 - r % 8)

/-- BE_n(v): the n-byte big-endian encoding of v < 2^(8n), most significant byte first (00_scope.md R13). -/
def bigEndian (n v : Nat) : List Byte := (List.range n).map fun i => BitVec.ofNat 8 (v >>> (8 * (n - 1 - i)))

/-- The value of a big-endian byte string (41_framing.md R85). -/
def bigEndianValue (b : List Byte) : Nat := b.foldl (fun v x => v * 256 + x.toNat) 0

/-- ceil(a / b) for b > 0 (00_scope.md R11). -/
def ceilDiv (a b : Nat) : Nat := (a + b - 1) / b

end Sys2Proof.Machine
end

