-- ==== Sys2Proof/Machine/Framing.lean ====
section
/-! DEFINITION. The pure encoding functions of the framing logic (41_framing.md section 1). -/

namespace Sys2Proof.Machine

/-- The loop "while v >= 2^(8n): n <- n + 1" of 41_framing.md R83, for at most `fuel` further rounds. -/
def byteCountFrom (v : Nat) : Nat → Nat → Nat
  | 0, n => n
  | fuel + 1, n => if 2 ^ (8 * n) ≤ v then byteCountFrom v fuel (n + 1) else n

/-- The least count of bytes, at least 1, that holds v < 2^64 (41_framing.md R83). -/
def byteCount (v : Nat) : Nat := byteCountFrom v 7 1

/-- leftEncode(v) for v < 2^64 (41_framing.md R83). -/
def leftEncode (v : Nat) : List Byte := BitVec.ofNat 8 (byteCount v) :: bigEndian (byteCount v) v

/-- leftDecode(E), the check function of 41_framing.md R85; the block has no decode command. -/
def leftDecode (e : List Byte) : Option Nat :=
  match e with
  | [] => none
  | n :: v =>
    if 1 ≤ n.toNat ∧ n.toNat ≤ 8 ∧ v.length = n.toNat then some (bigEndianValue v) else none

/-- bytepad(X, w) for w ≥ 1, with BYTEPAD_EXTRA_ALIGNED = `extra` (41_framing.md R86). -/
def bytepad (extra : Bool) (x : List Byte) (w : Nat) : List Byte :=
  let z := leftEncode w ++ x
  if z.length % w ≠ 0 then z ++ zeros (w - z.length % w)
  else if extra then z ++ zeros w
  else z

/-- initBlock(N, S) (41_framing.md R88). -/
def initBlock (n s : List Byte) : List Byte :=
  leftEncode (8 * n.length) ++ n ++ leftEncode (8 * s.length) ++ s

end Sys2Proof.Machine
end

