-- ==== Sys2Proof/Machine/Keccak.lean ====
section
/-! DEFINITION. The reference value of PERM, Keccak-f[1600], as the appendix of 95_test_vectors.md computes it. PRESUMED, since
the spec marks it "from general knowledge, not in source": log entry 4. -/

namespace Sys2Proof.Machine

/-- For each of the 24 rounds the bits that are 1 in the word XORed into lane 0 (95_test_vectors.md section 4: the words of its
list RC, by their bit numbers). -/
def keccakRoundBits : List (List Nat) :=
  [[0], [1, 7, 15], [1, 3, 7, 15, 63], [15, 31, 63], [0, 1, 3, 7, 15], [0, 31],
   [0, 7, 15, 31, 63], [0, 3, 15, 63], [1, 3, 7], [3, 7], [0, 3, 15, 31], [1, 3, 31],
   [0, 1, 3, 7, 15, 31], [0, 1, 3, 7, 63], [0, 3, 7, 15, 63], [0, 1, 15, 63], [1, 15, 63], [7, 63],
   [1, 3, 15], [1, 3, 31, 63], [0, 7, 15, 31, 63], [7, 15, 63], [0, 31], [3, 15, 31, 63]]

/-- A lane from the numbers of its 1 bits. -/
def laneOfBits (ks : List Nat) : Lane := ks.foldl (fun v k => v ||| (1#64 <<< k)) 0

/-- By how much lane A[x, y] is rotated: entry y of row x (95_test_vectors.md section 4). -/
def keccakRotations : List (List Nat) :=
  [[0, 36, 3, 41, 18], [1, 44, 10, 45, 2], [62, 6, 43, 15, 61], [28, 55, 25, 21, 56], [27, 20, 39, 8, 14]]

/-- Left rotation of a lane. -/
def rolLane (v : Lane) (n : Nat) : Lane := (v <<< (n % 64)) ||| (v >>> (64 - n % 64))

/-- Lane A[x, y], coordinates taken mod 5: index x + 5*y (20_memory.md R41). -/
def laneAt (a : List Lane) (x y : Nat) : Lane := a.getD (x % 5 + 5 * (y % 5)) 0

/-- The 25 lanes in index order from their coordinates. -/
def laneGrid (f : Nat → Nat → Lane) : List Lane := (List.range 25).map fun i => f (i % 5) (i / 5)

/-- The column step: each lane is XORed with the parities of two neighbouring columns. -/
def keccakTheta (a : List Lane) : List Lane :=
  let c := (List.range 5).map fun x =>
    laneAt a x 0 ^^^ laneAt a x 1 ^^^ laneAt a x 2 ^^^ laneAt a x 3 ^^^ laneAt a x 4
  let d := (List.range 5).map fun x => c.getD ((x + 4) % 5) 0 ^^^ rolLane (c.getD ((x + 1) % 5) 0) 1
  laneGrid fun x y => laneAt a x y ^^^ d.getD x 0

/-- Rotation and placement: B[y, 2x + 3y] is A[x, y] rotated, so B[u, v] comes from x = u + 3v, y = u (mod 5). -/
def keccakRhoPi (a : List Lane) : List Lane :=
  laneGrid fun u v =>
    let x := (u + 3 * v) % 5
    rolLane (laneAt a x u) ((keccakRotations.getD x []).getD u 0)

/-- The row step. -/
def keccakChi (b : List Lane) : List Lane :=
  laneGrid fun x y => laneAt b x y ^^^ (~~~(laneAt b (x + 1) y) &&& laneAt b (x + 2) y)

/-- One round, with the bits it inverts in lane 0. -/
def keccakRound (a : List Lane) (ks : List Nat) : List Lane :=
  let b := keccakChi (keccakRhoPi (keccakTheta a))
  b.set 0 (laneAt b 0 0 ^^^ laneOfBits ks)

/-- Keccak-f[1600] on the lanes in index order (95_test_vectors.md section 4, 20_memory.md R41). -/
def keccakF1600 (l : Lanes) : Lanes :=
  let a := keccakRoundBits.foldl keccakRound l.toList
  Vector.ofFn fun i : Fin 25 => a.getD i.val 0

end Sys2Proof.Machine
end

