-- ==== Sys2Proof/Config.lean ====
section
/-! DEFINITION. What an implementation fixes: the constants of 00_scope.md R9 and the open parameters of R8. -/

namespace Sys2Proof

/-- Which permutation PERM is (00_scope.md R8, R4).
`keccakF1600` is the reference value, Keccak-f[1600]; `arbitrary` is `Config.perm`, about which nothing is known but that it
is a permutation. PRESUMED, as the spec marks it "from general knowledge": log entry 4. -/
inductive PermChoice where
  | keccakF1600
  | arbitrary
deriving DecidableEq, Repr, Inhabited

/-- MAX_REQUEST is 2^32 or 2^16 and nothing else (00_scope.md R8, 90_conflicts.md C7). -/
inductive RequestBound where
  | pow32
  | pow16
deriving DecidableEq, Repr, Inhabited

/-- The open parameters of 00_scope.md R8 but NCTX, which is the length of the slot file. Every range is the type's. -/
structure Params where
  /-- PERM. -/
  perm : PermChoice
  /-- MAX_NS_LEN, 0 to 32758. -/
  maxNsLen : Fin 32759
  /-- MAX_REQUEST, either 2^32 or 2^16. -/
  requestBound : RequestBound
  /-- BYTEPAD_EXTRA_ALIGNED. -/
  bytepadExtraAligned : Bool
  /-- The TEST_MODE strap, fixed for a run (60_exceptions.md R136). -/
  testMode : Bool
deriving DecidableEq, Repr, Inhabited

/-- MAX_REQUEST as a number (00_scope.md R8). -/
def Params.maxRequest (p : Params) : Nat :=
  match p.requestBound with
  | .pow32 => 2 ^ 32
  | .pow16 => 2 ^ 16

/-- The reference values of 00_scope.md R8, for tests only. -/
def Params.reference : Params :=
  { perm := .keccakF1600, maxNsLen := 256, requestBound := .pow32, bytepadExtraAligned := false, testMode := true }

namespace Config

/-- PERM where it is left open: some permutation of the lane arrays (00_scope.md R8, R4). Log entry 4. -/
opaque perm : Equiv.Perm Lanes

/-- NCTX - 1 of the machine that `State.reset` describes; NCTX is 1 to 16 (00_scope.md R8). Log entry 1. -/
opaque nctxLessOne : Fin 16

/-- NCTX of the machine that `State.reset` describes. -/
def nctx : Nat := nctxLessOne.val + 1

/-- The other parameters of the machine that `State.reset` describes (00_scope.md R8). Log entry 1. -/
opaque params : Params

/-- RATE128 (00_scope.md R9). -/
abbrev rate128 : Byte := 168

/-- RATE256 (00_scope.md R9). -/
abbrev rate256 : Byte := 136

/-- DS_SHAKE, the domain byte of plain SHAKE (00_scope.md R9, 42_cshake.md R92). -/
abbrev dsShake : Byte := 0x1F

/-- DS_CSHAKE, the domain byte of cSHAKE (00_scope.md R9, 42_cshake.md R92). -/
abbrev dsCshake : Byte := 0x04

/-- SEEDLEN128 (00_scope.md R9). -/
abbrev seedLen128 : Byte := 32

/-- SEEDLEN256 (00_scope.md R9). -/
abbrev seedLen256 : Byte := 64

/-- MaxInputLength (00_scope.md R9). -/
abbrev maxInputLength : Nat := 2 ^ 32

/-- ReseedInterval (00_scope.md R9). -/
abbrev reseedInterval : Nat := 2 ^ 48

/-- The width of the remix window in bytes (00_scope.md R9). -/
abbrev remixWindow : Nat := 25

end Config

end Sys2Proof
end

