-- ==== Sys2Proof/Machine/State.lean ====
section
/-! DEFINITION. The machine's state as plain data (10_state.md), the reasons a step could stop, and the state after reset. -/

namespace Sys2Proof.Machine

/-- DIR, the direction of a context (10_state.md R27). -/
inductive Dir where
  | absorbing
  | squeezing
deriving DecidableEq, Repr

/-- A sponge context (10_state.md R27). -/
structure Ctx where
  valid : Bool
  lanes : Lanes
  rate : Byte
  ds : Byte
  cursor : Byte
  dir : Dir
  ib : List Byte
deriving DecidableEq, Repr

/-- 25 zero lanes. -/
def zeroLanes : Lanes := Vector.replicate 25 0#64

/-- A free context: every field zero, DIR ABSORBING, IB empty (10_state.md R28, R36; 40_sponge.md R74). -/
def Ctx.free : Ctx :=
  { valid := false, lanes := zeroLanes, rate := 0, ds := 0, cursor := 0, dir := .absorbing, ib := [] }

/-- DSTATE; the value 3 is never held (10_state.md R31, 43_drbg.md R99). -/
inductive DState where
  | empty
  | active
  | destroyed
deriving DecidableEq, Repr

/-- The registers of the one DRBG (10_state.md R31). -/
structure Drbg where
  dstate : DState
  drate : Byte
  dseedlen : Byte
  dcounter : Reg
  dnw : Reg
  dhasctx : Bool
  dlive : Ctx
  dfork : Ctx
deriving DecidableEq, Repr

/-- The DRBG registers after RST (10_state.md R36). -/
def Drbg.cleared : Drbg :=
  { dstate := .empty, drate := 0, dseedlen := 0, dcounter := 0, dnw := 0, dhasctx := false,
    dlive := Ctx.free, dfork := Ctx.free }

/-- The status codes: STS.ERR takes exactly these values (60_exceptions.md R127). -/
inductive Status where
  | ok
  | validation
  | reseedRequired
  | unsupportedStrength
  | internalAbsorb
  | destroyed
  | noInstance
  | instanceActive
  | illegalCmd
  | badSlot
  | slotEmpty
  | absorbAfterSqueeze
  | badArg
  | testDisabled
deriving DecidableEq, Repr

/-- What a completing command writes: STS.ERR, STS.LASTOP and RESULT (30_encoding.md R60, 60_exceptions.md R128). -/
structure Completion where
  err : Status
  lastOp : Byte
  result : Reg
deriving DecidableEq, Repr

/-- STS.PHASE with what the engine holds in it (10_state.md R23, 30_encoding.md R60).
`exec taken`: the pseudocode runs; `taken` are the DIN bytes the command has taken, none before its DinRead.
`dataIn taken need`: it has taken `taken` from DIN and `need` more have to arrive.
`dataOut rest done`: it offers `rest` on DOUT and will complete with `done` when the host has taken every byte. -/
inductive Phase where
  | idle
  | exec (taken : List Byte)
  | dataIn (taken : List Byte) (need : Nat)
  | dataOut (rest : List Byte) (done : Completion)
deriving DecidableEq, Repr

/-- The registers the host can read (10_state.md R20). -/
inductive HostReg where
  | cmd
  | arg0
  | arg1
  | arg2
  | sts
  | result
deriving DecidableEq, Repr

/-- What the host can do at the interface (70_reset_and_hazards.md R148, 10_state.md R20, R142). -/
inductive HostAction where
  /-- Write CMD. -/
  | writeCmd (w : CmdWord)
  /-- Write ARG0, ARG1 or ARG2. -/
  | writeArg (n : Fin 3) (v : Reg)
  /-- Read a register. -/
  | readReg (r : HostReg)
  /-- Hold out further bytes on DIN, the first of them first; the engine takes them when DIN is ready. -/
  | offerDin (bytes : List Byte)
  /-- Stand ready to take `n` further bytes from DOUT. -/
  | takeDout (n : Nat)
  /-- Drive RST: `true` asserts it, `false` releases it. -/
  | setRst (level : Bool)
deriving DecidableEq, Repr

/-- Which agent moves next, and for the host what it does (00_scope.md R7). -/
inductive Turn where
  | engine
  | host (a : HostAction)
deriving DecidableEq, Repr

/-- The whole state: the interface registers, the slot file, the DRBG registers, RST, and the host's side of the streams. -/
structure State where
  /-- The parameters of 00_scope.md R8; no step changes them. -/
  params : Params
  /-- CMD, the last word accepted; it is also the engine's latch, since it cannot change while BUSY (10_state.md R21). -/
  cmd : CmdWord
  arg0 : Reg
  arg1 : Reg
  arg2 : Reg
  /-- The latch of ARG0 at the last issue (10_state.md R22). -/
  a0 : Reg
  /-- The latch of ARG1. -/
  a1 : Reg
  /-- The latch of ARG2. -/
  a2 : Reg
  /-- STS.PHASE and STS.BUSY (10_state.md R23). -/
  phase : Phase
  /-- STS.ERR (10_state.md R23). -/
  err : Status
  /-- STS.LASTOP (10_state.md R23). -/
  lastOp : Byte
  /-- RESULT (10_state.md R24). -/
  result : Reg
  /-- CTX[0] to CTX[NCTX-1]; its length is NCTX (10_state.md R29). -/
  slots : List Ctx
  /-- The DRBG registers (10_state.md R31). -/
  drbg : Drbg
  /-- The reset input, `true` while asserted (70_reset_and_hazards.md R142). -/
  rst : Bool
  /-- The host's side of DIN: bytes held out and not yet taken by the engine. The model's own field, log entry 2. -/
  dinOffer : List Byte
  /-- The host's side of DOUT: how many bytes it stands ready to take. The model's own field, log entry 2. -/
  doutReady : Nat
  /-- The bytes the host has taken from DOUT, oldest first. The model's own field, log entry 2. -/
  doutTaken : List Byte
  /-- Who moves next; when it is empty the engine moves. The model's own field, log entry 2. -/
  turns : List Turn
deriving DecidableEq, Repr

/-- Why the machine stops with a fault: never. "In the model, an error is a normal completion with a code. It is neither a
fault nor a stuck state" (60_exceptions.md R132), and a wait for the host is "never a fault" (70_reset_and_hazards.md R147). -/
inductive Fault where
deriving DecidableEq, Repr

/-- Why an instruction is refused. -/
inductive Refusal where
  /-- Raised by an arm of `exec` for an instruction without a meaning: none here. Safe. -/
  | notModelled (mnemonic : String)
deriving DecidableEq, Repr

/-- The state after RST of a machine with `nctx` slots and parameters `p` (10_state.md R36), RST released, the host idle. -/
def State.resetWith (nctx : Nat) (p : Params) : State :=
  { params := p, cmd := 0, arg0 := 0, arg1 := 0, arg2 := 0, a0 := 0, a1 := 0, a2 := 0, phase := .idle, err := .ok,
    lastOp := 0, result := 0, slots := List.replicate nctx Ctx.free, drbg := Drbg.cleared, rst := false,
    dinOffer := [], doutReady := 0, doutTaken := [], turns := [] }

/-- The machine right after reset (10_state.md R36). Its parameters are the open ones of 00_scope.md R8. -/
def State.reset : State := State.resetWith Config.nctx Config.params

end Sys2Proof.Machine
end

