-- ==== Sys2Proof/Machine/Sponge.lean ====
section
/-! DEFINITION. The sponge operations every command is built from (40_sponge.md section 1, 42_cshake.md). -/

namespace Sys2Proof.Machine

/-- PERM (00_scope.md R8). -/
def permute (p : PermChoice) (l : Lanes) : Lanes :=
  match p with
  | .keccakF1600 => keccakF1600 l
  | .arbitrary => Config.perm l

/-- SB(C, i): state byte i of a context (20_memory.md R39). The spec reads 0 ≤ i < 200 only. -/
def Ctx.stateByte (c : Ctx) (i : Nat) : Byte :=
  ((c.lanes[i / 8]?.getD 0) >>> (8 * (i % 8))).setWidth 8

/-- SBX(C, i, v): XOR a byte into state byte i (20_memory.md R39). The spec writes 0 ≤ i < 200 only. -/
def Ctx.xorByte (c : Ctx) (i : Nat) (v : Byte) : Ctx :=
  let lane := (c.lanes[i / 8]?.getD 0) ^^^ (v.setWidth 64 <<< (8 * (i % 8)))
  { c with lanes := c.lanes.setIfInBounds (i / 8) lane }

/-- One byte of Absorb: XOR it at the cursor, advance, and permute when a rate block is full (40_sponge.md R67). -/
def Ctx.absorbByte (p : PermChoice) (c : Ctx) (v : Byte) : Ctx :=
  let c1 := c.xorByte c.cursor.toNat v
  if c.cursor.toNat + 1 = c.rate.toNat then { c1 with lanes := permute p c1.lanes, cursor := 0 }
  else { c1 with cursor := c.cursor + 1 }

/-- Absorb(C, D) (40_sponge.md R67). -/
def Ctx.absorb (p : PermChoice) (c : Ctx) (d : List Byte) : Ctx := d.foldl (Ctx.absorbByte p) c

/-- Finalize(C) (40_sponge.md R69). -/
def Ctx.finalize (p : PermChoice) (c : Ctx) : Ctx :=
  let c1 := (c.xorByte c.cursor.toNat c.ds).xorByte (c.rate.toNat - 1) 0x80
  { c1 with lanes := permute p c1.lanes, cursor := 0, dir := .squeezing }

/-- "if C.CURSOR = C.RATE": the lazy permutation before the next squeezed byte (40_sponge.md R70). -/
def Ctx.turnBlock (p : PermChoice) (c : Ctx) : Ctx :=
  if c.cursor = c.rate then { c with lanes := permute p c.lanes, cursor := 0 } else c

/-- The squeeze loop of 40_sponge.md R70: `n` bytes, first byte first, and the context after them. -/
def Ctx.squeezeBytes (p : PermChoice) : Nat → Ctx → List Byte × Ctx
  | 0, c => ([], c)
  | n + 1, c =>
    let c1 := c.turnBlock p
    let r := Ctx.squeezeBytes p n { c1 with cursor := c1.cursor + 1 }
    (c1.stateByte c1.cursor.toNat :: r.1, r.2)

/-- Squeeze(C, n): the bytes, and the context after it (40_sponge.md R70). -/
def Ctx.squeeze (p : PermChoice) (c : Ctx) (n : Nat) : List Byte × Ctx :=
  match c.dir with
  | .absorbing => Ctx.squeezeBytes p n (c.finalize p)
  | .squeezing => Ctx.squeezeBytes p n c

/-- Clone(C): every field equals C's (40_sponge.md R72). -/
def Ctx.clone (c : Ctx) : Ctx :=
  { valid := c.valid, lanes := c.lanes, rate := c.rate, ds := c.ds, cursor := c.cursor, dir := c.dir, ib := c.ib }

/-- ResetCtx(C), with BYTEPAD_EXTRA_ALIGNED = `extra` (40_sponge.md R73). -/
def Ctx.resetCtx (p : PermChoice) (extra : Bool) (c : Ctx) : Ctx :=
  let c1 := { c with lanes := zeroLanes, cursor := 0, dir := .absorbing }
  if c.ib = [] then c1 else c1.absorb p (bytepad extra c.ib c.rate.toNat)

/-- Zeroize(C): every field zero (40_sponge.md R74). -/
def Ctx.zeroize (_ : Ctx) : Ctx := Ctx.free

/-- NewShake(r) (42_cshake.md R93). -/
def newShake (r : Byte) : Ctx :=
  { valid := true, lanes := zeroLanes, rate := r, ds := Config.dsShake, cursor := 0, dir := .absorbing, ib := [] }

/-- The context CTX_CSHAKE builds from N and S (42_cshake.md R94). -/
def newCshake (p : PermChoice) (extra : Bool) (r : Byte) (n s : List Byte) : Ctx :=
  if n = [] ∧ s = [] then newShake r
  else
    Ctx.absorb p
      { valid := true, lanes := zeroLanes, rate := r, ds := Config.dsCshake, cursor := 0, dir := .absorbing,
        ib := initBlock n s }
      (bytepad extra (initBlock n s) r.toNat)

end Sys2Proof.Machine
end

