-- ==== Sys2Proof/Machine/DrbgOps.lean ====
section
/-! DEFINITION. The DRBG helper algorithms (44_drbg_helpers.md) and the DRBG register operations of 43_drbg.md. -/

namespace Sys2Proof.Machine

/-- DeriveOffset(B, nw) (44_drbg_helpers.md R117). -/
def deriveOffset (b : List Byte) (nw : Reg) : Byte :=
  let x := xor8 b + BitVec.ofNat 8 (nw.toNat + 1)
  if nw &&& 0xA55A ≠ 0 then ror8 x (nw.toNat % 8) else rol8 x (nw.toNat % 8)

/-- CheckedAbsorb(C, D) (44_drbg_helpers.md R119); `none` is its failure, upon which the caller destroys the DRBG registers
and raises ERR_INTERNAL_ABSORB. -/
def checkedAbsorb (p : PermChoice) (c : Ctx) (d : List Byte) : Option Ctx :=
  match c.dir with
  | .squeezing => none
  | .absorbing => some (c.absorb p d)

/-- The zero bytes that carry a pre-padded absorb to the next rate boundary, none when it stands on one
(44_drbg_helpers.md R120). -/
def padToBoundary (p : PermChoice) (c : Ctx) : Option Ctx :=
  if c.cursor = 0 then some c else checkedAbsorb p c (zeros (c.rate.toNat - c.cursor.toNat))

/-- PrePaddedAbsorb(C, D) with DNW = `nw`: the context and DNW after it, or `none` on failure (44_drbg_helpers.md R120). -/
def prePaddedAbsorb (p : PermChoice) (c : Ctx) (nw : Reg) (d : List Byte) : Option (Ctx × Reg) :=
  if d = [] then some (c, nw)
  else
    match checkedAbsorb p c (zeros (deriveOffset d nw).toNat ++ d) with
    | none => none
    | some c1 =>
      match padToBoundary p c1 with
      | none => none
      | some c2 => some (c2, nw + 1)

/-- WindowStart(scratch, nw) (44_drbg_helpers.md R122). -/
def windowStart (scratch : List Byte) (nw : Reg) : Nat := (deriveOffset scratch nw).toNat % (scratch.length - 24)

/-- The term XORed in at step t of the remix (44_drbg_helpers.md R123). -/
def remixTerm (t : Nat) (b : Byte) : Byte :=
  if t &&& 0x07 = 0 then ~~~b
  else if t &&& 0x0A ≠ 0 then ror8 b (t &&& 0x07)
  else rol8 b (t &&& 0x07)

/-- The pairs (i, j), j ≠ i, in the order the loops visit them (44_drbg_helpers.md R123). -/
def remixPairs : List (Nat × Nat) :=
  (List.range Config.remixWindow).flatMap fun i =>
    ((List.range Config.remixWindow).filter (· ≠ i)).map fun j => (i, j)

/-- One step of the remix, at pair (i, j) and step counter t (44_drbg_helpers.md R123). -/
def remixStep (b : List Byte) (x : (Nat × Nat) × Nat) : List Byte :=
  b.set x.1.1 (b.getD x.1.1 0 ^^^ remixTerm x.2 (b.getD x.1.2 0))

/-- The 600 steps of the remix, t = 0 to 599 (44_drbg_helpers.md R123, R124). -/
def remixCore (b : List Byte) : List Byte := remixPairs.zipIdx.foldl remixStep b

/-- All bytes of the window are the same (44_drbg_helpers.md R123). -/
def allEqual (w : List Byte) : Bool := w.all (· == w.headD 0)

/-- The perturbation of a constant window: b[i] XOR (i + 1) (44_drbg_helpers.md R123). -/
def perturb (w : List Byte) : List Byte := w.mapIdx fun i b => b ^^^ BitVec.ofNat 8 (i + 1)

/-- Remix(W) for a window of 25 bytes (44_drbg_helpers.md R123). -/
def remix (w : List Byte) : List Byte := remixCore (if allEqual w then perturb w else w)

/-- The registers DestroyInstance leaves (43_drbg.md R112). -/
def Drbg.destroyed : Drbg :=
  { dstate := .destroyed, drate := 0, dseedlen := 0, dcounter := 0, dnw := 0, dhasctx := false,
    dlive := Ctx.free, dfork := Ctx.free }

/-- k = ceil(outLen / r) of Generate (43_drbg.md R107, R108). -/
def generateBlocks (outLen r : Nat) : Nat := ceilDiv outLen r

/-- S = (k + 1) * r - 1 of Generate (43_drbg.md R107, R108). -/
def scratchLen (outLen r : Nat) : Nat := (generateBlocks outLen r + 1) * r - 1

/-- The replay pad of Generate's step 6: DS in its first byte and 0x80 XORed into its last (43_drbg.md R107). -/
def replayPad (r : Nat) (ds : Byte) : List Byte :=
  let b := (zeros r).set 0 ds
  b.set (r - 1) (b.getD (r - 1) 0 ^^^ 0x80)

/-- "repeat k times: CheckedAbsorb(DFORK, zeros(r))" (43_drbg.md R107). -/
def absorbZeroBlocks (p : PermChoice) (r : Nat) : Nat → Ctx → Option Ctx
  | 0, c => some c
  | k + 1, c =>
    match checkedAbsorb p c (zeros r) with
    | none => none
    | some c1 => absorbZeroBlocks p r k c1

/-- Step 6 of Generate: the fork replays the permutations the squeeze incurred (43_drbg.md R107, R109). -/
def replayFork (p : PermChoice) (r k : Nat) (ds : Byte) (fork : Ctx) : Option Ctx :=
  match checkedAbsorb p fork (replayPad r ds) with
  | none => none
  | some c => absorbZeroBlocks p r k c

/-- Steps 6 and 7 of Generate on the fork: replay, then the pre-padded absorb of the remixed window
(43_drbg.md R107). -/
def evolveFork (p : PermChoice) (r k : Nat) (ds : Byte) (nw : Reg) (scratch : List Byte) (fork : Ctx) :
    Option (Ctx × Reg) :=
  match replayFork p r k ds fork with
  | none => none
  | some c =>
    prePaddedAbsorb p c nw (remix ((scratch.drop (windowStart scratch nw)).take Config.remixWindow))

end Sys2Proof.Machine
end

