-- ==== Sys2Proof/Machine/Flags.lean ====
section
/-! DEFINITION. The status word and the views the host reads (10_state.md R20, R23). STS holds the block's only status flags
(R26). -/

namespace Sys2Proof.Machine

/-- The value of STS.ERR (60_exceptions.md R127). -/
def Status.code : Status → Byte
  | .ok => 0x00
  | .validation => 0x01
  | .reseedRequired => 0x02
  | .unsupportedStrength => 0x03
  | .internalAbsorb => 0x04
  | .destroyed => 0x05
  | .noInstance => 0x06
  | .instanceActive => 0x07
  | .illegalCmd => 0x10
  | .badSlot => 0x11
  | .slotEmpty => 0x12
  | .absorbAfterSqueeze => 0x13
  | .badArg => 0x14
  | .testDisabled => 0x15

/-- The value of STS.PHASE (10_state.md R23). -/
def Phase.code : Phase → BitVec 2
  | .idle => 0
  | .dataIn _ _ => 1
  | .exec _ => 2
  | .dataOut _ _ => 3

/-- STS.BUSY: 1 from issue until completion (10_state.md R23). -/
def State.busy (s : State) : Bool :=
  match s.phase with
  | .idle => false
  | .exec _ => true
  | .dataIn _ _ => true
  | .dataOut _ _ => true

/-- STS, its fields from bit 31 down (10_state.md R23). -/
def State.sts (s : State) : BitVec 32 :=
  0#7 ++ BitVec.ofBool s.params.testMode ++ s.lastOp ++ s.err.code ++ 0#5 ++ s.phase.code ++ BitVec.ofBool s.busy

/-- DIN is ready only in DATA_IN (10_state.md R25). -/
def State.dinReady (s : State) : Bool :=
  match s.phase with
  | .idle => false
  | .exec _ => false
  | .dataIn _ _ => true
  | .dataOut _ _ => false

/-- The bytes on DOUT, offered and not yet taken; none outside DATA_OUT (10_state.md R25). -/
def State.doutOffered (s : State) : List Byte :=
  match s.phase with
  | .idle => []
  | .exec _ => []
  | .dataIn _ _ => []
  | .dataOut rest _ => rest

/-- DOUT is valid only while it offers a byte (10_state.md R25). -/
def State.doutValid (s : State) : Bool := !s.doutOffered.isEmpty

/-- What the host reads from a register, zero-extended to 64 bits (10_state.md R20, 20_memory.md R46). -/
def State.readReg (s : State) : HostReg → Reg
  | .cmd => s.cmd.setWidth 64
  | .arg0 => s.arg0
  | .arg1 => s.arg1
  | .arg2 => s.arg2
  | .sts => s.sts.setWidth 64
  | .result => s.result

/-- The value DRBG_READ_FIELD 0 reads (43_drbg.md R114). -/
def DState.code : DState → BitVec 2
  | .empty => 0
  | .active => 1
  | .destroyed => 2

/-- The DIR bit of CTX_STATUS (40_sponge.md R82). -/
def Dir.code : Dir → BitVec 1
  | .absorbing => 0
  | .squeezing => 1

/-- RESULT of CTX_STATUS for a slot (40_sponge.md R82). -/
def Ctx.statusWord (c : Ctx) : Reg :=
  if c.valid then
    1 ||| (c.dir.code.setWidth 64 <<< 1) ||| (c.ds.setWidth 64 <<< 8) ||| (c.rate.setWidth 64 <<< 16)
      ||| (c.cursor.setWidth 64 <<< 24) ||| (BitVec.ofNat 64 c.ib.length <<< 32)
  else 0

end Sys2Proof.Machine
end

