-- ==== Sys2Proof/Syntax.lean ====
section
/-! DEFINITION. The 20 commands of the opcode map (30_encoding.md R56), one constructor each. -/

namespace Sys2Proof

/-- A decoded command. Its fields are the slot indices of the command word, zero-extended to naturals (30_encoding.md R54);
every other operand is in the latches A0, A1, A2 or on DIN. -/
inductive Instr where
  /-- CTX_SHAKE, 42_cshake.md R93. -/
  | ctxShake (sa : Nat)
  /-- CTX_CSHAKE, 42_cshake.md R94. -/
  | ctxCshake (sa : Nat)
  /-- CTX_ABSORB, 40_sponge.md R77. -/
  | ctxAbsorb (sa : Nat)
  /-- CTX_SQUEEZE, 40_sponge.md R78. -/
  | ctxSqueeze (sa : Nat)
  /-- CTX_CLONE, SA the destination and SB the source, 40_sponge.md R79. -/
  | ctxClone (dst src : Nat)
  /-- CTX_RESET, 40_sponge.md R80. -/
  | ctxReset (sa : Nat)
  /-- CTX_FREE, 40_sponge.md R81. -/
  | ctxFree (sa : Nat)
  /-- CTX_STATUS, 40_sponge.md R82. -/
  | ctxStatus (sa : Nat)
  /-- ENC_LEFT, 41_framing.md R89. -/
  | encLeft
  /-- ENC_BYTEPAD, 41_framing.md R90. -/
  | encBytepad
  /-- DRBG_NEW, 43_drbg.md R104. -/
  | drbgNew
  /-- DRBG_GENERATE, 43_drbg.md R107. -/
  | drbgGenerate
  /-- DRBG_RESEED, 43_drbg.md R105. -/
  | drbgReseed
  /-- DRBG_RESET, 43_drbg.md R106. -/
  | drbgReset
  /-- DRBG_DESTROY, 43_drbg.md R112. -/
  | drbgDestroy
  /-- DRBG_NEED_RESEED, 43_drbg.md R113. -/
  | drbgNeedReseed
  /-- DRBG_READ_FIELD, 43_drbg.md R114. -/
  | drbgReadField
  /-- DRBG_TEST_SET_COUNTER, 43_drbg.md R115. -/
  | drbgTestSetCounter
  /-- DIAG_OFFSET, 44_drbg_helpers.md R125. -/
  | diagOffset
  /-- DIAG_REMIX, 44_drbg_helpers.md R126. -/
  | diagRemix
deriving DecidableEq, Repr

end Sys2Proof
end

