-- ==== Sys2Proof/WellFormed.lean ====
section
/-! DEFINITION. Which instruction terms a command word can stand for: slot indices are 4-bit fields (30_encoding.md R53, R54). -/

namespace Sys2Proof

/-- A slot index fits its 4-bit field (30_encoding.md R53). -/
def slotIndexOk (i : Nat) : Bool := i < 16

/-- The slot indices an instruction carries, SA first (30_encoding.md R56). -/
def Instr.slotFields : Instr → List Nat
  | .ctxShake sa => [sa]
  | .ctxCshake sa => [sa]
  | .ctxAbsorb sa => [sa]
  | .ctxSqueeze sa => [sa]
  | .ctxClone dst src => [dst, src]
  | .ctxReset sa => [sa]
  | .ctxFree sa => [sa]
  | .ctxStatus sa => [sa]
  | .encLeft => []
  | .encBytepad => []
  | .drbgNew => []
  | .drbgGenerate => []
  | .drbgReseed => []
  | .drbgReset => []
  | .drbgDestroy => []
  | .drbgNeedReseed => []
  | .drbgReadField => []
  | .drbgTestSetCounter => []
  | .diagOffset => []
  | .diagRemix => []

/-- Every slot index of the instruction fits its field. -/
def Instr.wellFormed (i : Instr) : Bool := i.slotFields.all slotIndexOk

end Sys2Proof
end

