-- ==== Sys2Proof/Decode.lean ====
section
/-! DEFINITION. Decoding a command word in the order of 30_encoding.md R55, and encoding an instruction by R53 and R56. -/

namespace Sys2Proof

/-- Why a word is no command; each completes with ERR_ILLEGAL_CMD (30_encoding.md R55, R58). -/
inductive DecodeError where
  /-- The opcode is outside the opcode map. -/
  | undefinedOpcode
  /-- RSV, bits 31:16, is not zero. -/
  | reservedField
  /-- A slot field the command does not use is not zero. -/
  | unusedSlotField
deriving DecidableEq, Repr

/-- OPC, bits 7:0 (30_encoding.md R53). -/
def opcField (w : CmdWord) : Byte := w.extractLsb' 0 8

/-- SA, bits 11:8, as a natural (30_encoding.md R53, R54). -/
def saField (w : CmdWord) : Nat := (w.extractLsb' 8 4).toNat

/-- SB, bits 15:12, as a natural (30_encoding.md R53, R54). -/
def sbField (w : CmdWord) : Nat := (w.extractLsb' 12 4).toNat

/-- RSV, bits 31:16 (30_encoding.md R53). -/
def rsvField (w : CmdWord) : BitVec 16 := w.extractLsb' 16 16

/-- The slot fields a row of the opcode map uses, with the command it then gives (30_encoding.md R56, column "slots"). -/
inductive OpcodeRow where
  | noSlot (make : Instr)
  | slotA (make : Nat → Instr)
  | slotAB (make : Nat → Nat → Instr)

/-- The opcode map (30_encoding.md R56). -/
def opcodeMap (opc : Byte) : Option OpcodeRow :=
  match opc.toNat with
  | 0x01 => some (.slotA .ctxShake)
  | 0x02 => some (.slotA .ctxCshake)
  | 0x03 => some (.slotA .ctxAbsorb)
  | 0x04 => some (.slotA .ctxSqueeze)
  | 0x05 => some (.slotAB .ctxClone)
  | 0x06 => some (.slotA .ctxReset)
  | 0x07 => some (.slotA .ctxFree)
  | 0x08 => some (.slotA .ctxStatus)
  | 0x10 => some (.noSlot .encLeft)
  | 0x11 => some (.noSlot .encBytepad)
  | 0x20 => some (.noSlot .drbgNew)
  | 0x21 => some (.noSlot .drbgGenerate)
  | 0x22 => some (.noSlot .drbgReseed)
  | 0x23 => some (.noSlot .drbgReset)
  | 0x24 => some (.noSlot .drbgDestroy)
  | 0x25 => some (.noSlot .drbgNeedReseed)
  | 0x26 => some (.noSlot .drbgReadField)
  | 0x27 => some (.noSlot .drbgTestSetCounter)
  | 0x30 => some (.noSlot .diagOffset)
  | 0x31 => some (.noSlot .diagRemix)
  | _ => none

/-- The row's own check of the slot fields it does not use, and its command (30_encoding.md R55). -/
def OpcodeRow.read (row : OpcodeRow) (sa sb : Nat) : Except DecodeError Instr :=
  match row with
  | .noSlot make => if sa = 0 ∧ sb = 0 then .ok make else .error .unusedSlotField
  | .slotA make => if sb = 0 then .ok (make sa) else .error .unusedSlotField
  | .slotAB make => .ok (make sa sb)

/-- Decode of 30_encoding.md R55: the first failing test rejects the word. -/
def decode (w : CmdWord) : Except DecodeError Instr :=
  match opcodeMap (opcField w) with
  | none => .error .undefinedOpcode
  | some row => if rsvField w = 0 then row.read (saField w) (sbField w) else .error .reservedField

/-- The opcode of a command (30_encoding.md R56). -/
def Instr.opcode : Instr → Byte
  | .ctxShake _ => 0x01
  | .ctxCshake _ => 0x02
  | .ctxAbsorb _ => 0x03
  | .ctxSqueeze _ => 0x04
  | .ctxClone _ _ => 0x05
  | .ctxReset _ => 0x06
  | .ctxFree _ => 0x07
  | .ctxStatus _ => 0x08
  | .encLeft => 0x10
  | .encBytepad => 0x11
  | .drbgNew => 0x20
  | .drbgGenerate => 0x21
  | .drbgReseed => 0x22
  | .drbgReset => 0x23
  | .drbgDestroy => 0x24
  | .drbgNeedReseed => 0x25
  | .drbgReadField => 0x26
  | .drbgTestSetCounter => 0x27
  | .diagOffset => 0x30
  | .diagRemix => 0x31

/-- SA of a command's word; 0 where the command uses no slot (30_encoding.md R55, R62). -/
def Instr.slotA : Instr → Nat
  | .ctxShake sa => sa
  | .ctxCshake sa => sa
  | .ctxAbsorb sa => sa
  | .ctxSqueeze sa => sa
  | .ctxClone dst _ => dst
  | .ctxReset sa => sa
  | .ctxFree sa => sa
  | .ctxStatus sa => sa
  | .encLeft => 0
  | .encBytepad => 0
  | .drbgNew => 0
  | .drbgGenerate => 0
  | .drbgReseed => 0
  | .drbgReset => 0
  | .drbgDestroy => 0
  | .drbgNeedReseed => 0
  | .drbgReadField => 0
  | .drbgTestSetCounter => 0
  | .diagOffset => 0
  | .diagRemix => 0

/-- SB of a command's word; only CTX_CLONE uses it (30_encoding.md R56). -/
def Instr.slotB : Instr → Nat
  | .ctxClone _ src => src
  | .ctxShake _ => 0
  | .ctxCshake _ => 0
  | .ctxAbsorb _ => 0
  | .ctxSqueeze _ => 0
  | .ctxReset _ => 0
  | .ctxFree _ => 0
  | .ctxStatus _ => 0
  | .encLeft => 0
  | .encBytepad => 0
  | .drbgNew => 0
  | .drbgGenerate => 0
  | .drbgReseed => 0
  | .drbgReset => 0
  | .drbgDestroy => 0
  | .drbgNeedReseed => 0
  | .drbgReadField => 0
  | .drbgTestSetCounter => 0
  | .diagOffset => 0
  | .diagRemix => 0

/-- The word of a well-formed command: RSV, SB, SA, OPC from the top (30_encoding.md R53). -/
def encode (i : Instr) : CmdWord :=
  0#16 ++ BitVec.ofNat 4 i.slotB ++ BitVec.ofNat 4 i.slotA ++ i.opcode

/-- What `decode` reads from the command word whose low `nbits` bits are `w` and whose other bits are 0. CMD is an integer
register, so no byte order applies (20_memory.md R43). -/
def decodeTableWord (nbits w : Nat) : Option Instr :=
  match decode (BitVec.ofNat 32 (w % 2 ^ nbits)) with
  | .ok i => some i
  | .error _ => none

end Sys2Proof
end

