-- ==== Sys2Proof/Machine/Operands.lean ====
section
/-! DEFINITION. The operands of commands: level and strength selection, length checks, slot lookup, declared byte counts. -/

namespace Sys2Proof.Machine

/-- Rate(level): the level operand is 128 or 256 and nothing else (42_cshake.md R91, R93). -/
def rateOfLevel (level : Reg) : Option Byte :=
  if level = 128 then some Config.rate128
  else if level = 256 then some Config.rate256
  else none

/-- (DRATE, DSEEDLEN) of a strength operand (43_drbg.md R101, R104). -/
def profileOfStrength (strength : Reg) : Option (Byte × Byte) :=
  if strength = 128 then some (Config.rate128, Config.seedLen128)
  else if strength = 256 then some (Config.rate256, Config.seedLen256)
  else none

/-- SeedLenOK(L, sl) (43_drbg.md R102). -/
def seedLenOk (len : Nat) (seedLen : Byte) : Bool := seedLen.toNat / 2 ≤ len && len ≤ Config.maxInputLength

/-- The size of the slot file, NCTX (10_state.md R29). -/
def State.nctx (s : State) : Nat := s.slots.length

/-- Slot i, `none` where i names no slot (10_state.md R29). -/
def State.slot (s : State) (i : Nat) : Option Ctx := s.slots[i]?

/-- Write a whole slot (10_state.md R29). -/
def State.setSlot (s : State) (i : Nat) (c : Ctx) : State := { s with slots := s.slots.set i c }

/-- The bytes the running command has taken from DIN so far. -/
def State.dinTaken (s : State) : List Byte :=
  match s.phase with
  | .idle => []
  | .exec taken => taken
  | .dataIn taken _ => taken
  | .dataOut _ _ => []

/-- The DIN byte count a command declares, from its opcode and latched operands (30_encoding.md R56, R59). -/
def declaredDin (i : Instr) (s : State) : Nat :=
  match i with
  | .ctxShake _ => 0
  | .ctxCshake _ => s.a1.toNat + s.a2.toNat
  | .ctxAbsorb _ => s.a0.toNat
  | .ctxSqueeze _ => 0
  | .ctxClone _ _ => 0
  | .ctxReset _ => 0
  | .ctxFree _ => 0
  | .ctxStatus _ => 0
  | .encLeft => 0
  | .encBytepad => s.a1.toNat
  | .drbgNew => s.a1.toNat
  | .drbgGenerate => s.a1.toNat
  | .drbgReseed => s.a0.toNat
  | .drbgReset => s.a0.toNat
  | .drbgDestroy => 0
  | .drbgNeedReseed => 0
  | .drbgReadField => 0
  | .drbgTestSetCounter => 0
  | .diagOffset => s.a1.toNat
  | .diagRemix => Config.remixWindow

end Sys2Proof.Machine
end

