-- ==== Sys2Proof/Machine/Ops.lean ====
section
/-! DEFINITION. The life cycle of a command (30_encoding.md R60): issue, the data phases, completion; the one way every error
is reported; the checks commands share; RST; the host's register writes. -/

namespace Sys2Proof.Machine

/-- Completion: STS.ERR, STS.LASTOP and RESULT are written, PHASE is IDLE and BUSY 0 (30_encoding.md R60). -/
def State.complete (s : State) (c : Completion) : State :=
  { s with phase := .idle, err := c.err, lastOp := c.lastOp, result := c.result }

/-- `raise E` (00_scope.md R17): STS.ERR = E, STS.LASTOP = the opcode, RESULT = 0 (60_exceptions.md R128). This is the one
operation by which the block reports an error; it has no trap (60_exceptions.md R132). -/
def State.raise (s : State) (op : Byte) (e : Status) : State := s.complete { err := e, lastOp := op, result := 0 }

/-- `finish` of a command that writes no result: OK and RESULT = 0 (00_scope.md R17, 10_state.md R24). -/
def State.finish (s : State) (op : Byte) : State := s.complete { err := .ok, lastOp := op, result := 0 }

/-- `finish` of a query: OK and RESULT = v (10_state.md R24). -/
def State.answer (s : State) (op : Byte) (v : Reg) : State := s.complete { err := .ok, lastOp := op, result := v }

/-- DinRead(n), then the rest of the command (00_scope.md R16, 30_encoding.md R60). With n bytes taken it goes on with them, so
DinRead(0) never waits; otherwise PHASE is DATA_IN until the missing bytes have arrived, and the engine then runs the command's
pseudocode again with them (log entry 3). -/
def State.dinRead (s : State) (n : Nat) (rest : List Byte → State → State) : State :=
  if n ≤ s.dinTaken.length then rest (s.dinTaken.take n) s
  else { s with phase := .dataIn s.dinTaken (n - s.dinTaken.length) }

/-- DIN while PHASE is DATA_IN: the engine takes the bytes the host holds out, at most the `need` that are missing; with all of
them PHASE is EXEC again (10_state.md R25, 30_encoding.md R60). -/
def State.dinTransfer (s : State) (taken : List Byte) (need : Nat) : State :=
  if need ≤ s.dinOffer.length then
    { s with phase := .exec (taken ++ s.dinOffer.take need), dinOffer := s.dinOffer.drop need }
  else { s with phase := .dataIn (taken ++ s.dinOffer) (need - s.dinOffer.length), dinOffer := [] }

/-- DoutWrite(B), then completion with `done` (00_scope.md R16, 30_encoding.md R60, R61). With a byte to hand over PHASE is
DATA_OUT until the host has taken all of them (log entry 10). -/
def State.doutWrite (s : State) (b : List Byte) (done : Completion) : State :=
  if b = [] then s.complete done else { s with phase := .dataOut b done }

/-- DOUT while PHASE is DATA_OUT: the host takes the bytes it stands ready for; with the last of them the command completes
(10_state.md R25, 30_encoding.md R60, R61). -/
def State.doutTransfer (s : State) (rest : List Byte) (done : Completion) : State :=
  if rest.length ≤ s.doutReady then
    State.complete { s with doutTaken := s.doutTaken ++ rest, doutReady := s.doutReady - rest.length } done
  else
    { s with phase := .dataOut (rest.drop s.doutReady) done, doutTaken := s.doutTaken ++ rest.take s.doutReady,
             doutReady := 0 }

/-- DoutWrite(B), then `finish`. -/
def State.emit (s : State) (op : Byte) (b : List Byte) : State :=
  s.doutWrite b { err := .ok, lastOp := op, result := 0 }

/-- The check "s >= NCTX" of every slot command (40_sponge.md R76, 42_cshake.md R93). -/
def State.withSlot (s : State) (op : Byte) (i : Nat) (rest : Ctx → State) : State :=
  match s.slot i with
  | none => s.raise op .badSlot
  | some c => rest c

/-- SlotOK(i) (40_sponge.md R76). -/
def State.withBuiltSlot (s : State) (op : Byte) (i : Nat) (rest : Ctx → State) : State :=
  s.withSlot op i fun c => if c.valid then rest c else s.raise op .slotEmpty

/-- InstanceOK() (43_drbg.md R100). -/
def State.withActive (s : State) (op : Byte) (rest : State) : State :=
  match s.drbg.dstate with
  | .empty => s.raise op .noInstance
  | .destroyed => s.raise op .destroyed
  | .active => rest

/-- DestroyInstance() (43_drbg.md R112). -/
def State.destroyDrbg (s : State) : State := { s with drbg := Drbg.destroyed }

/-- The last lines DRBG_NEW, DRBG_RESEED and DRBG_RESET share: PrePaddedAbsorb(DLIVE, seed), DCOUNTER <- 0, finish
(43_drbg.md R104, R105, R106); a failing absorb destroys and raises (44_drbg_helpers.md R119). -/
def State.absorbSeed (s : State) (op : Byte) (seed : List Byte) : State :=
  match prePaddedAbsorb s.params.perm s.drbg.dlive s.drbg.dnw seed with
  | none => s.destroyDrbg.raise op .internalAbsorb
  | some r => State.finish { s with drbg := { s.drbg with dlive := r.1, dnw := r.2, dcounter := 0 } } op

/-- The issue of a command: CMD is written, ARG0-ARG2 are latched, BUSY = 1 and PHASE = EXEC (30_encoding.md R60,
10_state.md R22). -/
def State.issue (s : State) (w : CmdWord) : State :=
  { s with cmd := w, a0 := s.arg0, a1 := s.arg1, a2 := s.arg2, phase := .exec [] }

/-- A host write to CMD: it issues when BUSY = 0 and is dropped when BUSY = 1 (10_state.md R21). -/
def State.writeCmd (s : State) (w : CmdWord) : State := if s.busy then s else s.issue w

/-- A host write to ARGn; it changes no latch (10_state.md R22). -/
def State.writeArg (s : State) (n : Fin 3) (v : Reg) : State :=
  match n with
  | 0 => { s with arg0 := v }
  | 1 => { s with arg1 := v }
  | 2 => { s with arg2 := v }

/-- RST asserted: every piece of the engine's state holds its reset value, and a running command is abandoned with its DIN
and DOUT bytes (70_reset_and_hazards.md R142, 10_state.md R36). The host's own side of the streams is the host's. -/
def State.assertRst (s : State) : State :=
  { State.resetWith s.nctx s.params with
    rst := true, dinOffer := s.dinOffer, doutReady := s.doutReady, doutTaken := s.doutTaken, turns := s.turns }

/-- RST driven to a level (70_reset_and_hazards.md R142). -/
def State.setRst (s : State) (level : Bool) : State :=
  if level then s.assertRst else { s with rst := false }

/-- One action of the host (70_reset_and_hazards.md R148). While RST is asserted register writes have no effect, since every
piece of state holds its reset value (R142). Reading has no effect (20_memory.md R46). -/
def State.hostMove (s : State) : HostAction → State
  | .writeCmd w => if s.rst then s else s.writeCmd w
  | .writeArg n v => if s.rst then s else s.writeArg n v
  | .readReg _ => s
  | .offerDin bytes => { s with dinOffer := s.dinOffer ++ bytes }
  | .takeDout n => { s with doutReady := s.doutReady + n }
  | .setRst level => s.setRst level

end Sys2Proof.Machine
end

