-- ==== Sys2Proof/Machine/CtxCommands.lean ====
section
/-! DEFINITION. The meanings of the context slot commands CTX_SHAKE to CTX_STATUS (40_sponge.md section 2, 42_cshake.md
section 2). -/

namespace Sys2Proof.Machine

/-- CTX_SHAKE (42_cshake.md R93). -/
def execCtxShake (sa : Nat) (s : State) : Host.Outcome State Fault Refusal :=
  let op := (Instr.ctxShake sa).opcode
  .next <| s.withSlot op sa fun _ =>
    match rateOfLevel s.a0 with
    | none => s.raise op .badArg
    | some r => (s.setSlot sa (newShake r)).finish op

/-- CTX_CSHAKE (42_cshake.md R94). N and then S are read from DIN as one run of A1 + A2 bytes. -/
def execCtxCshake (sa : Nat) (s : State) : Host.Outcome State Fault Refusal :=
  let op := (Instr.ctxCshake sa).opcode
  .next <| s.withSlot op sa fun _ =>
    match rateOfLevel s.a0 with
    | none => s.raise op .badArg
    | some r =>
      if s.params.maxNsLen.val < s.a1.toNat ∨ s.params.maxNsLen.val < s.a2.toNat then s.raise op .badArg
      else
        s.dinRead (s.a1.toNat + s.a2.toNat) fun d s1 =>
          (s1.setSlot sa (newCshake s.params.perm s.params.bytepadExtraAligned r (d.take s.a1.toNat)
            (d.drop s.a1.toNat))).finish op

/-- CTX_ABSORB (40_sponge.md R77). -/
def execCtxAbsorb (sa : Nat) (s : State) : Host.Outcome State Fault Refusal :=
  let op := (Instr.ctxAbsorb sa).opcode
  .next <| s.withBuiltSlot op sa fun c =>
    match c.dir with
    | .squeezing => s.raise op .absorbAfterSqueeze
    | .absorbing =>
      s.dinRead s.a0.toNat fun d s1 => (s1.setSlot sa (c.absorb s.params.perm d)).finish op

/-- CTX_SQUEEZE (40_sponge.md R78). -/
def execCtxSqueeze (sa : Nat) (s : State) : Host.Outcome State Fault Refusal :=
  let op := (Instr.ctxSqueeze sa).opcode
  .next <| s.withBuiltSlot op sa fun c =>
    let r := c.squeeze s.params.perm s.a0.toNat
    (s.setSlot sa r.2).emit op r.1

/-- CTX_CLONE (40_sponge.md R79). -/
def execCtxClone (dst src : Nat) (s : State) : Host.Outcome State Fault Refusal :=
  let op := (Instr.ctxClone dst src).opcode
  .next <| s.withSlot op dst fun _ =>
    s.withBuiltSlot op src fun c =>
      if dst = src then s.finish op else (s.setSlot dst c.clone).finish op

/-- CTX_RESET (40_sponge.md R80). -/
def execCtxReset (sa : Nat) (s : State) : Host.Outcome State Fault Refusal :=
  let op := (Instr.ctxReset sa).opcode
  .next <| s.withBuiltSlot op sa fun c =>
    (s.setSlot sa (c.resetCtx s.params.perm s.params.bytepadExtraAligned)).finish op

/-- CTX_FREE (40_sponge.md R81). -/
def execCtxFree (sa : Nat) (s : State) : Host.Outcome State Fault Refusal :=
  let op := (Instr.ctxFree sa).opcode
  .next <| s.withSlot op sa fun c => (s.setSlot sa c.zeroize).finish op

/-- CTX_STATUS (40_sponge.md R82). -/
def execCtxStatus (sa : Nat) (s : State) : Host.Outcome State Fault Refusal :=
  let op := (Instr.ctxStatus sa).opcode
  .next <| s.withSlot op sa fun c => s.answer op c.statusWord

end Sys2Proof.Machine
end

