-- ==== Sys2Proof/Machine/DiagCommands.lean ====
section
/-! DEFINITION. The meanings of the diagnostic commands DIAG_OFFSET and DIAG_REMIX (44_drbg_helpers.md section 4). -/

namespace Sys2Proof.Machine

/-- DIAG_OFFSET (44_drbg_helpers.md R125). -/
def execDiagOffset (s : State) : Host.Outcome State Fault Refusal :=
  let op := Instr.diagOffset.opcode
  .next <|
    if Config.maxInputLength < s.a1.toNat then s.raise op .badArg
    else s.dinRead s.a1.toNat fun d s1 => s1.answer op ((deriveOffset d s.a0).setWidth 64)

/-- DIAG_REMIX (44_drbg_helpers.md R126). -/
def execDiagRemix (s : State) : Host.Outcome State Fault Refusal :=
  let op := Instr.diagRemix.opcode
  .next <| s.dinRead Config.remixWindow fun w s1 => s1.emit op (remix w)

end Sys2Proof.Machine
end

