-- ==== Sys2Proof/Machine/DrbgCommands.lean ====
section
/-! DEFINITION. The meanings of the DRBG commands (43_drbg.md). -/

namespace Sys2Proof.Machine

/-- DRBG_NEW (43_drbg.md R104). -/
def execDrbgNew (s : State) : Host.Outcome State Fault Refusal :=
  let op := Instr.drbgNew.opcode
  .next <|
    if s.drbg.dstate = .active then s.raise op .instanceActive
    else
      match profileOfStrength s.a0 with
      | none => s.raise op .unsupportedStrength
      | some (r, sl) =>
        if seedLenOk s.a1.toNat sl then
          s.dinRead s.a1.toNat fun seed s1 =>
            State.absorbSeed
              { s1 with drbg :=
                  { dstate := .active, drate := r, dseedlen := sl, dcounter := 0, dnw := 0, dhasctx := true,
                    dlive := newShake r, dfork := s1.drbg.dfork } }
              op seed
        else s.raise op .validation

/-- Steps 3 to 8 of DRBG_GENERATE, once its checks have passed and additionalIn has been taken (43_drbg.md R107).
A failing absorb before step 5 offers no output. A failure after it offers the output and then completes with
ERR_INTERNAL_ABSORB, the registers destroyed (70_reset_and_hazards.md R150). -/
def State.runGenerate (s : State) (op : Byte) (add : List Byte) : State :=
  let p := s.params.perm
  let r := s.drbg.drate.toNat
  let k := generateBlocks s.a0.toNat r
  match prePaddedAbsorb p s.drbg.dlive s.drbg.dnw add with
  | none => s.destroyDrbg.raise op .internalAbsorb
  | some (live, nw) =>
    let squeezed := live.squeeze p (scratchLen s.a0.toNat r)
    let scratch := squeezed.1
    let out := scratch.take s.a0.toNat
    let s5 : State := { s with drbg := { s.drbg with dlive := squeezed.2, dfork := live.clone, dnw := nw } }
    match evolveFork p r k s5.drbg.dlive.ds s5.drbg.dnw scratch s5.drbg.dfork with
    | none => s5.destroyDrbg.doutWrite out { err := .internalAbsorb, lastOp := op, result := 0 }
    | some (next, nw1) =>
      State.emit
        { s5 with drbg :=
            { s5.drbg with dlive := next, dfork := s5.drbg.dfork.zeroize, dnw := nw1,
                           dcounter := s5.drbg.dcounter + 1 } }
        op out

/-- DRBG_GENERATE (43_drbg.md R107). -/
def execDrbgGenerate (s : State) : Host.Outcome State Fault Refusal :=
  let op := Instr.drbgGenerate.opcode
  .next <| s.withActive op <|
    if Config.reseedInterval < s.drbg.dcounter.toNat then s.raise op .reseedRequired
    else if s.a0 = 0 ∨ s.params.maxRequest < s.a0.toNat ∨ Config.maxInputLength < s.a1.toNat then
      s.raise op .validation
    else s.dinRead s.a1.toNat fun add s1 => s1.runGenerate op add

/-- DRBG_RESEED (43_drbg.md R105). -/
def execDrbgReseed (s : State) : Host.Outcome State Fault Refusal :=
  let op := Instr.drbgReseed.opcode
  .next <| s.withActive op <|
    if seedLenOk s.a0.toNat s.drbg.dseedlen then
      s.dinRead s.a0.toNat fun seed s1 => s1.absorbSeed op seed
    else s.raise op .validation

/-- ResetCtx(DLIVE), the rebuild of DRBG_RESET (43_drbg.md R106). -/
def State.rebuildLive (s : State) : State :=
  { s with drbg :=
      { s.drbg with dlive := s.drbg.dlive.resetCtx s.params.perm s.params.bytepadExtraAligned } }

/-- DRBG_RESET: the rebuild comes before the length check and stays when that check fails (43_drbg.md R106, 90_conflicts.md
C3). -/
def execDrbgReset (s : State) : Host.Outcome State Fault Refusal :=
  let op := Instr.drbgReset.opcode
  .next <| s.withActive op <|
    if seedLenOk s.a0.toNat s.drbg.dseedlen then
      s.rebuildLive.dinRead s.a0.toNat fun seed s1 => s1.absorbSeed op seed
    else s.rebuildLive.raise op .validation

/-- DRBG_DESTROY (43_drbg.md R112). -/
def execDrbgDestroy (s : State) : Host.Outcome State Fault Refusal :=
  let op := Instr.drbgDestroy.opcode
  .next <|
    match s.drbg.dstate with
    | .active => s.destroyDrbg.finish op
    | .empty => s.finish op
    | .destroyed => s.finish op

/-- DRBG_NEED_RESEED (43_drbg.md R113). -/
def execDrbgNeedReseed (s : State) : Host.Outcome State Fault Refusal :=
  let op := Instr.drbgNeedReseed.opcode
  .next <| s.withActive op <| s.answer op (if Config.reseedInterval < s.drbg.dcounter.toNat then 1 else 0)

/-- The index map of DRBG_READ_FIELD (43_drbg.md R114). -/
def Drbg.field (d : Drbg) (index : Nat) : Option Reg :=
  match index with
  | 0 => some (d.dstate.code.setWidth 64)
  | 1 => some (d.drate.setWidth 64)
  | 2 => some (d.dseedlen.setWidth 64)
  | 3 => some d.dcounter
  | 4 => some d.dnw
  | 5 => some ((BitVec.ofBool d.dhasctx).setWidth 64)
  | _ => none

/-- DRBG_READ_FIELD (43_drbg.md R114). -/
def execDrbgReadField (s : State) : Host.Outcome State Fault Refusal :=
  let op := Instr.drbgReadField.opcode
  .next <|
    match s.drbg.field s.a0.toNat with
    | none => s.raise op .badArg
    | some v => s.answer op v

/-- DRBG_TEST_SET_COUNTER (43_drbg.md R115). -/
def execDrbgTestSetCounter (s : State) : Host.Outcome State Fault Refusal :=
  let op := Instr.drbgTestSetCounter.opcode
  .next <|
    if s.params.testMode then
      s.withActive op <| State.finish { s with drbg := { s.drbg with dcounter := s.a0 } } op
    else s.raise op .testDisabled

end Sys2Proof.Machine
end

