-- ==== Sys2Proof/Machine/EncCommands.lean ====
section
/-! DEFINITION. The meanings of the framing commands ENC_LEFT and ENC_BYTEPAD (41_framing.md section 2). -/

namespace Sys2Proof.Machine

/-- ENC_LEFT (41_framing.md R89). -/
def execEncLeft (s : State) : Host.Outcome State Fault Refusal :=
  .next <| s.emit Instr.encLeft.opcode (leftEncode s.a0.toNat)

/-- ENC_BYTEPAD (41_framing.md R90). -/
def execEncBytepad (s : State) : Host.Outcome State Fault Refusal :=
  let op := Instr.encBytepad.opcode
  .next <|
    if s.a0 = 0 ∨ Config.maxInputLength < s.a0.toNat then s.raise op .badArg
    else if Config.maxInputLength < s.a1.toNat then s.raise op .badArg
    else
      s.dinRead s.a1.toNat fun x s1 => s1.emit op (bytepad s.params.bytepadExtraAligned x s.a0.toNat)

end Sys2Proof.Machine
end

