-- ==== Sys2Proof/Machine/Dispatch.lean ====
section
/-! DEFINITION. One arm per command: each calls its own meaning. -/

namespace Sys2Proof.Machine

/-- The meaning of a decoded command, run by the engine (30_encoding.md R60). -/
def exec (i : Instr) (s : State) : Host.Outcome State Fault Refusal :=
  match i with
  | .ctxShake sa => Sys2Proof.Machine.execCtxShake sa s
  | .ctxCshake sa => Sys2Proof.Machine.execCtxCshake sa s
  | .ctxAbsorb sa => Sys2Proof.Machine.execCtxAbsorb sa s
  | .ctxSqueeze sa => Sys2Proof.Machine.execCtxSqueeze sa s
  | .ctxClone dst src => Sys2Proof.Machine.execCtxClone dst src s
  | .ctxReset sa => Sys2Proof.Machine.execCtxReset sa s
  | .ctxFree sa => Sys2Proof.Machine.execCtxFree sa s
  | .ctxStatus sa => Sys2Proof.Machine.execCtxStatus sa s
  | .encLeft => Sys2Proof.Machine.execEncLeft s
  | .encBytepad => Sys2Proof.Machine.execEncBytepad s
  | .drbgNew => Sys2Proof.Machine.execDrbgNew s
  | .drbgGenerate => Sys2Proof.Machine.execDrbgGenerate s
  | .drbgReseed => Sys2Proof.Machine.execDrbgReseed s
  | .drbgReset => Sys2Proof.Machine.execDrbgReset s
  | .drbgDestroy => Sys2Proof.Machine.execDrbgDestroy s
  | .drbgNeedReseed => Sys2Proof.Machine.execDrbgNeedReseed s
  | .drbgReadField => Sys2Proof.Machine.execDrbgReadField s
  | .drbgTestSetCounter => Sys2Proof.Machine.execDrbgTestSetCounter s
  | .diagOffset => Sys2Proof.Machine.execDiagOffset s
  | .diagRemix => Sys2Proof.Machine.execDiagRemix s

end Sys2Proof.Machine
end

