-- ==== Sys2Proof/Machine/Engine.lean ====
section
/-! DEFINITION. One move of the engine, and whose move it is (30_encoding.md R60, 00_scope.md R7). -/

namespace Sys2Proof.Machine

/-- Decode the latched command word and run its command; a word that is no command completes with ERR_ILLEGAL_CMD and LASTOP
its low byte (30_encoding.md R55, R60). -/
def State.runCommand (s : State) : Host.Outcome State Fault Refusal :=
  match decode s.cmd with
  | .ok i => exec i s
  | .error _ => .next (s.raise (opcField s.cmd) .illegalCmd)

/-- One move of the engine. Idle, or with RST asserted, it has none. In EXEC it decodes and runs the command up to its next
wait or its completion. In DATA_IN it takes DIN bytes, in DATA_OUT it hands over DOUT bytes, as far as the host's side allows
(30_encoding.md R60, 70_reset_and_hazards.md R142, R147, log entry 9). -/
def State.engineMove (s : State) : Host.Outcome State Fault Refusal :=
  if s.rst then .next s
  else
    match s.phase with
    | .idle => .next s
    | .exec _ => s.runCommand
    | .dataIn taken need => .next (s.dinTransfer taken need)
    | .dataOut rest done => .next (s.doutTransfer rest done)

/-- One step of the machine: the agent at the head of `turns` moves, the engine when the list is empty (log entry 2). -/
def State.move (s : State) : Host.Outcome State Fault Refusal :=
  match s.turns with
  | [] => s.engineMove
  | .engine :: ts => State.engineMove { s with turns := ts }
  | .host a :: ts => .next (State.hostMove { s with turns := ts } a)

/-- A state in which the engine has just been issued the command word `w` and moves next, RST released: what the host's write
of CMD leaves (30_encoding.md R60). -/
def State.issued (s : State) (w : CmdWord) : State := { s.issue w with rst := false, turns := [] }

end Sys2Proof.Machine
end

