-- ==== Sys2Proof/Machine/Step.lean ====
section
/-! DEFINITION. The step function, and the placing of one command word for it. -/

namespace Sys2Proof.Machine

/-- One step (00_scope.md R7). -/
def step (s : State) : Host.Outcome State Fault Refusal := s.move

/-- `s` with the command word `w` (its bits above `nbits` zero) issued, so that the next step decodes and runs it. Commands
are not fetched from memory (20_memory.md R50): this stands for the host's write of CMD. Log entry 7. -/
def State.withFetchWord (s : State) (nbits w : Nat) : State := s.issued (BitVec.ofNat 32 (w % 2 ^ nbits))

end Sys2Proof.Machine
end

