-- ==== Sys2Proof/Machine/Stream.lean ====
section
/-! DEFINITION. The host side of command streams (30_encoding.md section 5 and R66): the operand forms, the assembler's command
word and operands for each mnemonic, the pseudo-instructions, and the host's guarded lines. The engine sees none of this: it
sees the host's register writes and bytes. -/

namespace Sys2Proof.Machine

/-- The byte-string operand forms (30_encoding.md R62). -/
inductive ByteStr where
  /-- `"text"`: ASCII bytes, no terminator. The rule gives no byte for a character outside ASCII: DESIGN CHOICE, it stands for
  the low 8 bits of its code point (log entry 13). -/
  | text (s : String)
  /-- `x"hexdigits"`, as the bytes the digit pairs stand for. -/
  | hex (bytes : List Byte)
  /-- `zeros(n)`. -/
  | zeros (n : Nat)
  /-- `a ++ b`. -/
  | append (a b : ByteStr)
deriving DecidableEq, Repr

/-- The bytes of an operand (30_encoding.md R62). For a character outside ASCII the rule gives no byte: DESIGN CHOICE, the low
8 bits of its code point (log entry 13). -/
def ByteStr.bytes : ByteStr → List Byte
  | .text s => s.toList.map fun ch => BitVec.ofNat 8 ch.toNat
  | .hex bytes => bytes
  | .zeros n => Machine.zeros n
  | .append a b => a.bytes ++ b.bytes

/-- A byte-string operand, or `len=N` in its place, which gives a length and no bytes (30_encoding.md R63). Which bytes such a
line supplies when its command passes its checks the rule does not say: DESIGN CHOICE, none (log entry 13). -/
inductive Payload where
  | data (b : ByteStr)
  | len (n : Nat)
deriving DecidableEq, Repr

/-- The length the assembler places in the operand the opcode map names (30_encoding.md R62, R63). The rules say nothing of a
length of 2^64 or more, which does not fit the 64-bit operand: DESIGN CHOICE, its low 64 bits are placed (log entry 13). -/
def Payload.length : Payload → Reg
  | .data b => BitVec.ofNat 64 b.bytes.length
  | .len n => BitVec.ofNat 64 n

/-- The bytes the host pushes on DIN (30_encoding.md R62, R63). For `len=N` there are none, also when the command passes its
checks, so the engine then stays in DATA_IN: DESIGN CHOICE, since R63 names no bytes for that case (log entry 13). -/
def Payload.bytes : Payload → List Byte
  | .data b => b.bytes
  | .len _ => []

/-- One line of a command stream (30_encoding.md R62, the syntax table). -/
inductive StreamLine where
  | ctxShake (cA : Nat) (level : Reg)
  | ctxCshake (cA : Nat) (level : Reg) (n s : Payload)
  | ctxAbsorb (cA : Nat) (data : Payload)
  | ctxSqueeze (cA : Nat) (n : Reg)
  | ctxClone (cDst cSrc : Nat)
  | ctxReset (cA : Nat)
  | ctxFree (cA : Nat)
  | ctxStatus (cA : Nat)
  | encLeft (v : Reg)
  | encBytepad (w : Reg) (data : Payload)
  | drbgNew (strength : Reg) (seed : Payload)
  | drbgGenerate (outLen : Reg) (additionalIn : Payload)
  | drbgReseed (seed : Payload)
  | drbgReset (seed : Payload)
  | drbgDestroy
  | drbgNeedReseed
  | drbgReadField (index : Reg)
  | drbgTestSetCounter (value : Reg)
  | diagOffset (nw : Reg) (data : Payload)
  | diagRemix (data25 : Payload)
deriving DecidableEq, Repr

/-- What the host does for one command: the ARG writes, the command, the DIN bytes (30_encoding.md R62). -/
structure StreamCmd where
  instr : Instr
  args : List (Fin 3 × Reg)
  din : List Byte
deriving DecidableEq, Repr

/-- The word and operands of a line (30_encoding.md R62, the table's third column). -/
def StreamLine.command : StreamLine → StreamCmd
  | .ctxShake cA level => { instr := .ctxShake cA, args := [(0, level)], din := [] }
  | .ctxCshake cA level n s =>
    { instr := .ctxCshake cA, args := [(0, level), (1, n.length), (2, s.length)], din := n.bytes ++ s.bytes }
  | .ctxAbsorb cA data => { instr := .ctxAbsorb cA, args := [(0, data.length)], din := data.bytes }
  | .ctxSqueeze cA n => { instr := .ctxSqueeze cA, args := [(0, n)], din := [] }
  | .ctxClone cDst cSrc => { instr := .ctxClone cDst cSrc, args := [], din := [] }
  | .ctxReset cA => { instr := .ctxReset cA, args := [], din := [] }
  | .ctxFree cA => { instr := .ctxFree cA, args := [], din := [] }
  | .ctxStatus cA => { instr := .ctxStatus cA, args := [], din := [] }
  | .encLeft v => { instr := .encLeft, args := [(0, v)], din := [] }
  | .encBytepad w data => { instr := .encBytepad, args := [(0, w), (1, data.length)], din := data.bytes }
  | .drbgNew strength seed => { instr := .drbgNew, args := [(0, strength), (1, seed.length)], din := seed.bytes }
  | .drbgGenerate outLen add => { instr := .drbgGenerate, args := [(0, outLen), (1, add.length)], din := add.bytes }
  | .drbgReseed seed => { instr := .drbgReseed, args := [(0, seed.length)], din := seed.bytes }
  | .drbgReset seed => { instr := .drbgReset, args := [(0, seed.length)], din := seed.bytes }
  | .drbgDestroy => { instr := .drbgDestroy, args := [], din := [] }
  | .drbgNeedReseed => { instr := .drbgNeedReseed, args := [], din := [] }
  | .drbgReadField index => { instr := .drbgReadField, args := [(0, index)], din := [] }
  | .drbgTestSetCounter value => { instr := .drbgTestSetCounter, args := [(0, value)], din := [] }
  | .diagOffset nw data => { instr := .diagOffset, args := [(0, nw), (1, data.length)], din := data.bytes }
  | .diagRemix data25 => { instr := .diagRemix, args := [], din := data25.bytes }

/-- The assembler: it refuses a slot index above 15 and a DIAG_REMIX payload of any length but 25 (30_encoding.md R62). -/
def StreamLine.assemble (l : StreamLine) : Option StreamCmd :=
  if l.command.instr.wellFormed = false then none
  else if l.command.instr = .diagRemix ∧ l.command.din.length ≠ Config.remixWindow then none
  else some l.command

/-- The pseudo-instructions (30_encoding.md R64). -/
inductive PseudoLine where
  | shake128 (cA : Nat) (data : Payload) (n : Reg)
  | shake256 (cA : Nat) (data : Payload) (n : Reg)
  | cshake128 (cA : Nat) (fn cust data : Payload) (n : Reg)
  | cshake256 (cA : Nat) (fn cust data : Payload) (n : Reg)
  | drbgRenew (strength : Reg) (seed : Payload)
deriving DecidableEq, Repr

/-- The expansion of a pseudo-instruction (30_encoding.md R64). -/
def PseudoLine.expand : PseudoLine → List StreamLine
  | .shake128 cA data n => [.ctxShake cA 128, .ctxAbsorb cA data, .ctxSqueeze cA n]
  | .shake256 cA data n => [.ctxShake cA 256, .ctxAbsorb cA data, .ctxSqueeze cA n]
  | .cshake128 cA fn cust data n => [.ctxCshake cA 128 fn cust, .ctxAbsorb cA data, .ctxSqueeze cA n]
  | .cshake256 cA fn cust data n => [.ctxCshake cA 256 fn cust, .ctxAbsorb cA data, .ctxSqueeze cA n]
  | .drbgRenew strength seed => [.drbgDestroy, .drbgNew strength seed]

/-- The conditions of guarded lines, on the previous completion's fields (30_encoding.md R66). -/
inductive Guard where
  | errIs (e : Status)
  | errIsNot (e : Status)
  | resultIs (v : Reg)
  | resultIsNot (v : Reg)
deriving DecidableEq, Repr

/-- Whether a condition holds (30_encoding.md R66). -/
def Guard.holds (g : Guard) (s : State) : Bool :=
  match g with
  | .errIs e => s.err == e
  | .errIsNot e => s.err != e
  | .resultIs v => s.result == v
  | .resultIsNot v => s.result != v

/-- A line of a host program (30_encoding.md R62, R64, R66). -/
inductive HostLine where
  | label (name : String)
  | command (l : StreamLine)
  | pseudo (l : PseudoLine)
  | guardedCommand (g : Guard) (l : StreamLine)
  | guardedGoto (g : Guard) (name : String)
deriving DecidableEq, Repr

/-- Go on with the state a step answers; stop where it stops. -/
def andThen (o : Host.Outcome State Fault Refusal) (f : State → Host.Outcome State Fault Refusal) :
    Host.Outcome State Fault Refusal :=
  match o with
  | .next s => f s
  | .fault r => .fault r
  | .refused r => .refused r

/-- One step of the machine in which the given agent moves. -/
def State.takeTurn (s : State) (t : Turn) : Host.Outcome State Fault Refusal := step { s with turns := [t] }

/-- Several turns, one after the other. -/
def State.takeTurns (s : State) : List Turn → Host.Outcome State Fault Refusal
  | [] => .next s
  | t :: ts => andThen (s.takeTurn t) fun s1 => s1.takeTurns ts

/-- The host pushes the DIN bytes where the engine waits for them; the engine takes them and, with all of them, goes on
(10_state.md R25, 30_encoding.md R60). -/
def State.pushDin (s : State) (din : List Byte) : Host.Outcome State Fault Refusal :=
  if s.dinReady then s.takeTurns [.host (.offerDin din), .engine, .engine] else .next s

/-- The host takes every byte on DOUT, and the engine moves (70_reset_and_hazards.md R148). -/
def State.drainDout (s : State) : Host.Outcome State Fault Refusal :=
  if s.doutValid then s.takeTurns [.host (.takeDout s.doutOffered.length), .engine] else .next s

/-- A host that keeps its duties performs one command: it writes the operands and CMD, pushes the DIN bytes if the command
asks for them, and takes the DOUT bytes (70_reset_and_hazards.md R148). While the engine still waits it issues nothing
(70_reset_and_hazards.md R146, R149). -/
def State.perform (s : State) (c : StreamCmd) : Host.Outcome State Fault Refusal :=
  if s.busy then .next s
  else andThen (s.takeTurns (c.args.map (fun a => Turn.host (.writeArg a.1 a.2)) ++
      [.host (.writeCmd (encode c.instr)), .engine])) fun s1 =>
    andThen (s1.pushDin c.din) State.drainDout

/-- Perform one line; a line the assembler refuses is passed over (DESIGN CHOICE, log entry 13). -/
def State.performLine (s : State) (l : StreamLine) : Host.Outcome State Fault Refusal :=
  match l.assemble with
  | none => .next s
  | some c => s.perform c

/-- Perform lines one after the other. -/
def State.performLines (s : State) : List StreamLine → Host.Outcome State Fault Refusal
  | [] => .next s
  | l :: ls => andThen (s.performLine l) fun s1 => s1.performLines ls

/-- Run at most `fuel` lines of a host program from line `line` (30_encoding.md R66). The rule is silent on a label that stands
on two lines or on none: DESIGN CHOICE, a jump goes to the first such line, and where there is none it ends the run (log entry
13). -/
def State.runLines (program : List HostLine) : Nat → Nat → State → Host.Outcome State Fault Refusal
  | 0, _, s => .next s
  | fuel + 1, line, s =>
    match program[line]? with
    | none => .next s
    | some (.label _) => State.runLines program fuel (line + 1) s
    | some (.command l) => andThen (s.performLine l) (State.runLines program fuel (line + 1))
    | some (.pseudo l) => andThen (s.performLines l.expand) (State.runLines program fuel (line + 1))
    | some (.guardedCommand g l) =>
      if g.holds s then andThen (s.performLine l) (State.runLines program fuel (line + 1))
      else State.runLines program fuel (line + 1) s
    | some (.guardedGoto g name) =>
      if g.holds s then
        match program.findIdx? (· = HostLine.label name) with
        | none => .next s
        | some target => State.runLines program fuel target s
      else State.runLines program fuel (line + 1) s

end Sys2Proof.Machine
end

