-- ==== Sys2Proof/Safety.lean ====
section
/-! DEFINITION. What holds of every state a run meets: the invariants of 10_state.md R28, R32, R33, the launch premises of
70_reset_and_hazards.md R145, and the end and observation of a run (R146, R147). -/

namespace Sys2Proof.Machine

/-- The context invariants (10_state.md R28). -/
abbrev Ctx.good (c : Ctx) : Prop :=
  (c.valid = true →
    (c.rate = 136 ∨ c.rate = 168) ∧ (c.ds = 0x1F ∨ c.ds = 0x04) ∧ (c.ds = 0x1F ↔ c.ib = [])) ∧
  (c.valid = true → c.dir = .absorbing → c.cursor.toNat < c.rate.toNat) ∧
  (c.valid = true → c.dir = .squeezing → c.cursor.toNat ≤ c.rate.toNat) ∧
  (c.valid = false → c = Ctx.free)

/-- The bound on IB (10_state.md R27). -/
abbrev Ctx.ibFits (c : Ctx) (p : Params) : Prop := c.ib.length ≤ 18 + 2 * p.maxNsLen.val

/-- The DRBG invariants at command boundaries, and the alignment of the live context (10_state.md R32, R33). -/
abbrev Drbg.good (d : Drbg) : Prop :=
  (d.dstate = .active ↔ d.dhasctx = true) ∧
  (d.dstate = .active ↔ d.dlive.valid = true) ∧
  (d.dstate = .active →
    ((d.drate = 168 ∧ d.dseedlen = 32) ∨ (d.drate = 136 ∧ d.dseedlen = 64)) ∧
    d.dlive.rate = d.drate ∧ d.dlive.ds = 0x1F ∧ d.dlive.ib = [] ∧
    d.dlive.dir = .absorbing ∧ d.dlive.cursor = 0) ∧
  (d.dstate ≠ .active →
    d.drate = 0 ∧ d.dseedlen = 0 ∧ d.dcounter = 0 ∧ d.dnw = 0 ∧ d.dhasctx = false ∧ d.dlive = Ctx.free) ∧
  d.dfork = Ctx.free

/-- What each phase holds: in EXEC either no DIN byte or all the bytes the command declares; in DATA_IN what is missing of them,
which is not nothing; in DATA_OUT a byte on offer (10_state.md R25, 30_encoding.md R59, R60). -/
def State.phaseGood (s : State) : Bool :=
  match s.phase with
  | .idle => true
  | .exec taken =>
    taken.isEmpty ||
      match decode s.cmd with
      | .ok i => taken.length == declaredDin i s
      | .error _ => false
  | .dataIn taken need =>
    need != 0 &&
      match decode s.cmd with
      | .ok i => taken.length + need == declaredDin i s
      | .error _ => false
  | .dataOut rest _ => !rest.isEmpty

/-- The invariant of the whole machine. -/
structure State.Inv (s : State) : Prop where
  /-- NCTX is 1 to 16 (00_scope.md R8). -/
  slotCount : 1 ≤ s.nctx ∧ s.nctx ≤ 16
  /-- Every slot meets R28 and R27's bound on IB. -/
  slotsGood : ∀ c ∈ s.slots, c.good ∧ c.ibFits s.params
  /-- The DRBG registers meet R32 and R33. -/
  drbgGood : s.drbg.good
  /-- The data phases hold what they should. -/
  phaseGood : s.phaseGood = true
  /-- While RST is asserted every piece of the engine's state holds its reset value (70_reset_and_hazards.md R142). -/
  rstGood : s.rst = true → s.assertRst = s

/-- The launch premises: the invariants, BUSY = 0 and both streams empty (70_reset_and_hazards.md R145). -/
structure State.Launch (s : State) : Prop where
  inv : s.Inv
  idle : s.busy = false
  noDin : s.dinOffer = []
  noDout : s.doutOffered = []

/-- What a completion writes and nothing else: PHASE, STS.ERR, STS.LASTOP and RESULT (30_encoding.md R60, 10_state.md R24,
60_exceptions.md R128). -/
def State.completed (s : State) (op : Byte) (e : Status) (v : Reg) : State :=
  { s with phase := .idle, err := e, lastOp := op, result := v }

/-- The host has taken the bytes `b` from DOUT (70_reset_and_hazards.md R148). -/
def State.taking (s : State) (b : List Byte) : State :=
  { s with doutTaken := s.doutTaken ++ b, doutReady := s.doutReady - b.length }

/-- The engine offers the bytes `b` in DATA_OUT; once the host has taken them the command completes OK with RESULT = 0
(30_encoding.md R60, 70_reset_and_hazards.md R147). -/
def State.offering (s : State) (op : Byte) (b : List Byte) : State :=
  { s with phase := .dataOut b { err := .ok, lastOp := op, result := 0 } }

/-- The engine waits in DATA_IN for what is missing of the `n` declared bytes (30_encoding.md R60, 70_reset_and_hazards.md
R147). -/
def State.awaiting (s : State) (n : Nat) : State :=
  { s with phase := .dataIn s.dinTaken (n - s.dinTaken.length) }

/-- The bytes a pre-padded absorb of `d` at offset `o` absorbs from a rate boundary: o zeros, the data, and zeros up to the
next boundary (44_drbg_helpers.md R120, R121). -/
def padded (r o : Nat) (d : List Byte) : List Byte := zeros o ++ d ++ zeros ((r - (o + d.length) % r) % r)

/-- A pre-padded absorb from a rate boundary as one plain absorb; an empty input absorbs nothing (44_drbg_helpers.md R120). -/
def absorbPadded (p : PermChoice) (c : Ctx) (nw : Reg) (d : List Byte) : Ctx :=
  if d = [] then c else c.absorb p (padded c.rate.toNat (deriveOffset d nw).toNat d)

/-- A run has ended: nothing is left for the host to do and the last command has completed (70_reset_and_hazards.md R146). -/
def State.ended (s : State) : Bool := s.turns.isEmpty && !s.busy

/-- The engine waits on a host duty: a hold that only the host or RST releases (70_reset_and_hazards.md R147). -/
def State.waits (s : State) : Bool :=
  match s.phase with
  | .idle => false
  | .exec _ => false
  | .dataIn _ _ => true
  | .dataOut _ _ => true

/-- What is observed of a run besides its completions: the slot file and the DRBG registers (70_reset_and_hazards.md R146). -/
structure Observation where
  slots : List Ctx
  drbg : Drbg
deriving DecidableEq, Repr

/-- The final observation (70_reset_and_hazards.md R146). -/
def State.observe (s : State) : Observation := { slots := s.slots, drbg := s.drbg }

/-- The completions of the next `fuel` steps, each with its DOUT bytes; `mark` is how many bytes the host had taken before
the running command (70_reset_and_hazards.md R146). A command that RST abandons leaves none (R142). -/
def completions : Nat → Nat → State → List (Completion × List Byte)
  | 0, _, _ => []
  | fuel + 1, mark, s =>
    match step s with
    | .fault _ => []
    | .refused _ => []
    | .next t =>
      if t.rst then completions fuel t.doutTaken.length t
      else if s.busy && !t.busy then
        ({ err := t.err, lastOp := t.lastOp, result := t.result }, t.doutTaken.drop mark) ::
          completions fuel t.doutTaken.length t
      else completions fuel mark t

end Sys2Proof.Machine
end

