-- ==== Sys2Proof/Certificates/Slice0/Obligations.lean ====
section
/-! DEFINITION. The statements for the provers, from the numbered rules of spec/. -/

open Sys2Proof Sys2Proof.Machine

/-! ### Encoding -/

/-- 30_encoding.md R53, R54, R55, R56: every well-formed command is what its word decodes to. -/
def Obligations.DecodeOfEncode : Prop :=
  ∀ i : Instr, i.wellFormed = true → decode (encode i) = .ok i

/-- 30_encoding.md R53, R58: a word that decodes is the word of a well-formed command, so each command has one word. -/
def Obligations.EncodeOfDecode : Prop :=
  ∀ (w : CmdWord) (i : Instr), decode w = .ok i → i.wellFormed = true ∧ encode i = w

/-- 30_encoding.md R53, R56: words written out field by field from the format decode to the command they stand for. -/
def Obligations.WrittenWordsDecode : Prop :=
  decode (0b0000000000000000_0000_0011_00000001 : CmdWord) = .ok (.ctxShake 3) ∧
  decode (0b0000000000000000_1111_0001_00000101 : CmdWord) = .ok (.ctxClone 1 15) ∧
  decode (0b0000000000000000_0000_0000_00010001 : CmdWord) = .ok .encBytepad ∧
  decode (0b0000000000000000_0000_0000_00100001 : CmdWord) = .ok .drbgGenerate ∧
  decode (0b0000000000000000_0000_0000_00110001 : CmdWord) = .ok .diagRemix

/-- 30_encoding.md R55, R58: the words that are no command are exactly those the spec lists; each completes with
ERR_ILLEGAL_CMD, LASTOP its low byte and RESULT 0, and nothing else changes. -/
def Obligations.IllegalWordsAreThoseListed : Prop :=
  (∀ w : CmdWord,
    (∀ i, decode w ≠ .ok i) ↔
      ((w.extractLsb' 0 8).toNat = 0x00 ∨
        (0x09 ≤ (w.extractLsb' 0 8).toNat ∧ (w.extractLsb' 0 8).toNat ≤ 0x0F) ∨
        (0x12 ≤ (w.extractLsb' 0 8).toNat ∧ (w.extractLsb' 0 8).toNat ≤ 0x1F) ∨
        (0x28 ≤ (w.extractLsb' 0 8).toNat ∧ (w.extractLsb' 0 8).toNat ≤ 0x2F) ∨
        0x32 ≤ (w.extractLsb' 0 8).toNat ∨
        w.extractLsb' 16 16 ≠ 0 ∨
        (0x10 ≤ (w.extractLsb' 0 8).toNat ∧ w.extractLsb' 8 8 ≠ 0) ∨
        ((w.extractLsb' 0 8).toNat ≠ 0x05 ∧ w.extractLsb' 12 4 ≠ 0))) ∧
  (∀ (s : State) (e : DecodeError), decode s.cmd = .error e →
    s.runCommand =
      .next { s with phase := .idle, err := .illegalCmd, lastOp := s.cmd.extractLsb' 0 8, result := 0 })

/-! ### Steps: the engine and the host -/

/-- 30_encoding.md R55, R60: with RST released and the engine to move, a step in EXEC runs exactly the command the word in CMD
decodes to, on the state with the turn used up, and rejects a word that is no command; on a host turn a step is that host
action; a word placed by `withFetchWord` is run by the next step. 70_reset_and_hazards.md R142: in IDLE, or with RST asserted,
an engine turn changes nothing but the turns; releasing RST changes only the input itself; with RST asserted a write of CMD or
ARGn changes nothing. Whose turn it is, and the bytes the host offers and stands ready to take, are the model's fields (log entry
2), a command whose DIN bytes have arrived is run again with them (log entry 3), RST as a level and what writes do under it are
log entry 5, and `withFetchWord` is log entry 7. -/
def Obligations.StepRunsDecodedCommand : Prop :=
  (∀ (s : State) (i : Instr) (taken : List Byte),
    s.rst = false → s.phase = .exec taken → (s.turns = [] ∨ ∃ ts, s.turns = .engine :: ts) → decode s.cmd = .ok i →
    step s = exec i { s with turns := s.turns.tail }) ∧
  (∀ (s : State) (e : DecodeError) (taken : List Byte),
    s.rst = false → s.phase = .exec taken → (s.turns = [] ∨ ∃ ts, s.turns = .engine :: ts) → decode s.cmd = .error e →
    step s = .next (State.completed { s with turns := s.turns.tail } (s.cmd.extractLsb' 0 8) .illegalCmd 0)) ∧
  (∀ (s : State) (a : HostAction) (ts : List Turn), s.turns = .host a :: ts →
    step s = .next (State.hostMove { s with turns := ts } a)) ∧
  (∀ (s : State) (w : Nat) (i : Instr),
    w < 2 ^ 32 → decode (BitVec.ofNat 32 w) = .ok i →
    step (s.withFetchWord 32 w) = exec i (s.withFetchWord 32 w)) ∧
  (∀ s : State, (s.rst = true ∨ s.phase = .idle) → (s.turns = [] ∨ ∃ ts, s.turns = .engine :: ts) →
    step s = .next { s with turns := s.turns.tail }) ∧
  (∀ s : State, s.hostMove (.setRst false) = { s with rst := false }) ∧
  (∀ (s : State) (w : CmdWord) (n : Fin 3) (v : Reg), s.rst = true →
    s.hostMove (.writeCmd w) = s ∧ s.hostMove (.writeArg n v) = s) ∧
  (∀ (s : State) (bytes : List Byte) (n : Nat),
    s.hostMove (.offerDin bytes) = { s with dinOffer := s.dinOffer ++ bytes } ∧
    s.hostMove (.takeDout n) = { s with doutReady := s.doutReady + n })

/-- 30_encoding.md R60, R61, 70_reset_and_hazards.md R147, R148: in DATA_OUT the bytes the host stands ready for move in order;
once all of them are taken the command completes with the values it holds ready, and before that it waits with the rest. That
one step moves every byte the host stands ready for, and with the last one completes in the same move, with no EXEC in between,
is the model's reading (log entry 9, DEDUCED). How many bytes the host stands ready to take, and whose turn it is, are the
model's fields (log entry 2). -/
def Obligations.DataOutMovesBytesInOrder : Prop :=
  ∀ (s : State) (rest : List Byte) (done : Completion),
    s.rst = false → s.phase = .dataOut rest done → (s.turns = [] ∨ ∃ ts, s.turns = .engine :: ts) →
    (rest.length ≤ s.doutReady →
      step s = .next (State.completed (State.taking { s with turns := s.turns.tail } rest)
        done.lastOp done.err done.result)) ∧
    (s.doutReady < rest.length →
      step s = .next
        { s with turns := s.turns.tail, doutTaken := s.doutTaken ++ rest.take s.doutReady, doutReady := 0,
                 phase := .dataOut (rest.drop s.doutReady) done })

/-- 10_state.md R21, R22, 30_encoding.md R60: a host write to CMD while idle issues: CMD takes the word, the latches take ARG0
to ARG2, PHASE is EXEC; while BUSY it is dropped; reading CMD gives the last word accepted. -/
def Obligations.CmdWriteIssuesOrIsDropped : Prop :=
  ∀ (s : State) (w : CmdWord), s.rst = false →
    (s.busy = false →
      s.hostMove (.writeCmd w) = { s with cmd := w, a0 := s.arg0, a1 := s.arg1, a2 := s.arg2, phase := .exec [] } ∧
      (s.hostMove (.writeCmd w)).readReg .cmd = w.setWidth 64) ∧
    (s.busy = true →
      s.hostMove (.writeCmd w) = s ∧ (s.hostMove (.writeCmd w)).readReg .cmd = s.cmd.setWidth 64)

/-- 10_state.md R20, R22, 20_memory.md R46: with RST released, in any phase, a host write to ARGn sets that register and leaves
all else; a command reads only the latches, so such a write before the engine runs or resumes it changes nothing of what the
command does; and the engine writes no ARG register. A host read changes nothing and gives the register's value, zero-extended
where it is narrower than 64 bits; the registers go by name (log entry 14). -/
def Obligations.ArgWriteNeverReachesRunningCommand : Prop :=
  (∀ (s : State) (v : Reg), s.rst = false →
    s.hostMove (.writeArg 0 v) = { s with arg0 := v } ∧
    s.hostMove (.writeArg 1 v) = { s with arg1 := v } ∧
    s.hostMove (.writeArg 2 v) = { s with arg2 := v }) ∧
  (∀ (i : Instr) (n : Fin 3) (v : Reg) (s t : State),
    exec i s = .next t →
    exec i (s.writeArg n v) = .next (t.writeArg n v) ∧ t.arg0 = s.arg0 ∧ t.arg1 = s.arg1 ∧ t.arg2 = s.arg2) ∧
  (∀ (s : State) (n : Fin 3) (v : Reg), s.rst = false → s.hostMove (.writeArg n v) = s.writeArg n v) ∧
  (∀ (s : State) (r : HostReg), s.hostMove (.readReg r) = s) ∧
  (∀ s : State,
    s.readReg .cmd = s.cmd.setWidth 64 ∧ s.readReg .arg0 = s.arg0 ∧ s.readReg .arg1 = s.arg1 ∧
    s.readReg .arg2 = s.arg2 ∧ s.readReg .sts = s.sts.setWidth 64 ∧ s.readReg .result = s.result)

/-- 70_reset_and_hazards.md R142, 10_state.md R36: asserting RST in any state gives every piece of the engine's state its reset
value, a running command and its DIN and DOUT bytes among it; the parameters and the host's own side stay. The turns and the
host's side of the streams are the model's fields (log entry 2), and RST as a level is log entry 5. -/
def Obligations.RstAbandonsEverything : Prop :=
  ∀ (s : State) (ts : List Turn), s.turns = .host (.setRst true) :: ts →
    step s = .next
      { params := s.params, cmd := 0, arg0 := 0, arg1 := 0, arg2 := 0, a0 := 0, a1 := 0, a2 := 0, phase := .idle,
        err := .ok, lastOp := 0, result := 0,
        slots := List.replicate s.slots.length
          { valid := false, lanes := Vector.replicate 25 0, rate := 0, ds := 0, cursor := 0, dir := .absorbing, ib := [] },
        drbg :=
          { dstate := .empty, drate := 0, dseedlen := 0, dcounter := 0, dnw := 0, dhasctx := false,
            dlive := { valid := false, lanes := Vector.replicate 25 0, rate := 0, ds := 0, cursor := 0,
                       dir := .absorbing, ib := [] },
            dfork := { valid := false, lanes := Vector.replicate 25 0, rate := 0, ds := 0, cursor := 0,
                       dir := .absorbing, ib := [] } },
        rst := true, dinOffer := s.dinOffer, doutReady := s.doutReady, doutTaken := s.doutTaken, turns := ts }

/-- 10_state.md R36: every piece of state after RST, as the table lists it. -/
def Obligations.ResetHoldsListedValues : Prop :=
  State.reset.cmd = 0 ∧ State.reset.arg0 = 0 ∧ State.reset.arg1 = 0 ∧ State.reset.arg2 = 0 ∧
  State.reset.a0 = 0 ∧ State.reset.a1 = 0 ∧ State.reset.a2 = 0 ∧
  State.reset.busy = false ∧ State.reset.phase = .idle ∧ State.reset.err.code = 0x00 ∧ State.reset.lastOp = 0x00 ∧
  State.reset.sts = BitVec.ofNat 32 (if State.reset.params.testMode then 2 ^ 24 else 0) ∧
  State.reset.result = 0 ∧
  State.reset.dinReady = false ∧ State.reset.doutValid = false ∧ State.reset.dinTaken = [] ∧
  State.reset.doutOffered = [] ∧
  (∀ c ∈ State.reset.slots,
    c = { valid := false, lanes := Vector.replicate 25 0, rate := 0, ds := 0, cursor := 0, dir := .absorbing, ib := [] }) ∧
  State.reset.drbg.dstate = .empty ∧ State.reset.drbg.drate = 0 ∧ State.reset.drbg.dseedlen = 0 ∧
  State.reset.drbg.dcounter = 0 ∧ State.reset.drbg.dnw = 0 ∧ State.reset.drbg.dhasctx = false ∧
  (∀ c, c = State.reset.drbg.dlive ∨ c = State.reset.drbg.dfork →
    c = { valid := false, lanes := Vector.replicate 25 0, rate := 0, ds := 0, cursor := 0, dir := .absorbing, ib := [] })

/-- 10_state.md R23, 60_exceptions.md R127: the fields of STS, bit by bit, with each status's number in ERR. -/
def Obligations.StatusWordFields : Prop :=
  ∀ s : State,
    s.sts.extractLsb' 0 1 = (if s.phase = .idle then 0 else 1) ∧
    s.sts.extractLsb' 1 2 =
      (match s.phase with
        | .idle => 0
        | .dataIn _ _ => 1
        | .exec _ => 2
        | .dataOut _ _ => 3) ∧
    s.sts.extractLsb' 3 5 = 0 ∧
    s.sts.extractLsb' 8 8 =
      (match s.err with
        | .ok => 0x00
        | .validation => 0x01
        | .reseedRequired => 0x02
        | .unsupportedStrength => 0x03
        | .internalAbsorb => 0x04
        | .destroyed => 0x05
        | .noInstance => 0x06
        | .instanceActive => 0x07
        | .illegalCmd => 0x10
        | .badSlot => 0x11
        | .slotEmpty => 0x12
        | .absorbAfterSqueeze => 0x13
        | .badArg => 0x14
        | .testDisabled => 0x15) ∧
    s.sts.extractLsb' 16 8 = s.lastOp ∧
    s.sts.extractLsb' 24 1 = (if s.params.testMode then 1 else 0) ∧
    s.sts.extractLsb' 25 7 = 0

/-! ### Whole-machine rules -/

/-- 10_state.md R36 meets the invariant of R28, R32, R33. -/
def Obligations.ResetMeetsInvariant : Prop := State.reset.Inv

/-- 10_state.md R28, R32, R33: every step, of the engine or of the host, keeps the invariant. -/
def Obligations.StepKeepsInvariant : Prop :=
  ∀ s t : State, s.Inv → step s = .next t → t.Inv

/-- 43_drbg.md R116: no command reports ERR_INTERNAL_ABSORB, at once or through a pending output. -/
def Obligations.InternalAbsorbNeverReported : Prop :=
  ∀ s t : State, s.Inv → s.err ≠ .internalAbsorb → (∀ rest done, s.phase = .dataOut rest done → done.err = .ok) →
    step s = .next t → t.err ≠ .internalAbsorb ∧ (∀ rest done, t.phase = .dataOut rest done → done.err = .ok)

/-- 60_exceptions.md R136, 00_scope.md R8: no step changes a parameter, TEST_MODE among them, or the number of slots; and
every step answers a next state. -/
def Obligations.ParametersNeverChange : Prop :=
  ∀ s : State, ∃ t, step s = .next t ∧ t.params = s.params ∧ t.slots.length = s.slots.length

/-- 60_exceptions.md R128, R129: a command that completes with an error, at decode or in its own rule, leaves the slots, the
DRBG registers, the streams and the operands as they were, with the two exceptions of R129; it records the opcode field and
RESULT = 0. -/
def Obligations.ErrorsLeaveStateAsItWas : Prop :=
  ∀ s t : State,
    s.runCommand = .next t → t.phase = .idle → t.err ≠ .ok →
    t.lastOp = s.cmd.extractLsb' 0 8 ∧ t.result = 0 ∧ t.slots = s.slots ∧
    t.params = s.params ∧ t.cmd = s.cmd ∧ t.arg0 = s.arg0 ∧ t.arg1 = s.arg1 ∧ t.arg2 = s.arg2 ∧
    t.a0 = s.a0 ∧ t.a1 = s.a1 ∧ t.a2 = s.a2 ∧ t.rst = s.rst ∧ t.turns = s.turns ∧
    t.dinOffer = s.dinOffer ∧ t.doutTaken = s.doutTaken ∧ t.doutReady = s.doutReady ∧
    (t.err = .internalAbsorb →
      t.drbg = { dstate := .destroyed, drate := 0, dseedlen := 0, dcounter := 0, dnw := 0, dhasctx := false,
                 dlive := Ctx.free, dfork := Ctx.free }) ∧
    (t.err ≠ .internalAbsorb → ¬(decode s.cmd = .ok .drbgReset ∧ t.err = .validation) → t.drbg = s.drbg) ∧
    (decode s.cmd = .ok .drbgReset → t.err = .validation →
      t.drbg = { s.drbg with dlive := s.drbg.dlive.resetCtx s.params.perm s.params.bytepadExtraAligned })

/-- 43_drbg.md R99: which commands change DSTATE, and to what. -/
def Obligations.DrbgLifeCycle : Prop :=
  ∀ (i : Instr) (s t : State),
    s.drbg.good → exec i s = .next t →
    (s.drbg.dstate = .active → t.drbg.dstate = .active ∨ (i = .drbgDestroy ∧ t.drbg.dstate = .destroyed)) ∧
    (s.drbg.dstate = .empty → t.drbg.dstate = .empty ∨ (i = .drbgNew ∧ t.drbg.dstate = .active)) ∧
    (s.drbg.dstate = .destroyed → t.drbg.dstate = .destroyed ∨ (i = .drbgNew ∧ t.drbg.dstate = .active))

/-- 10_state.md R29: a command neither reads nor writes a slot its word does not name: overwriting such a slot beforehand
changes nothing in what the command does, and the slot keeps what was written; no command writes a slot but its SA, so CTX_CLONE
writes its destination alone; a command that names a slot neither reads nor writes the DRBG contexts; and an index at or above
NCTX names no slot. -/
def Obligations.SlotsAreIndependent : Prop :=
  (∀ (i : Instr) (j : Nat) (c : Ctx) (s t : State),
    j ∉ i.slotFields → exec i s = .next t →
    exec i (s.setSlot j c) = .next (t.setSlot j c) ∧ t.slots[j]? = s.slots[j]?) ∧
  (∀ (i : Instr) (j : Nat) (s t : State),
    j ∉ i.slotFields.take 1 → exec i s = .next t → t.slots[j]? = s.slots[j]?) ∧
  (∀ (i : Instr) (d : Drbg) (s t : State),
    i.slotFields ≠ [] → exec i s = .next t →
    exec i { s with drbg := d } = .next { t with drbg := d } ∧ t.drbg = s.drbg) ∧
  (∀ (i : Instr) (s : State), (∃ j ∈ i.slotFields, s.slots.length ≤ j) →
    exec i s = .next (s.completed i.opcode .badSlot 0))

/-- 60_exceptions.md R139: no context, framing or diagnostic command reads or writes a DRBG register. -/
def Obligations.DrbgIsIndependentOfSlots : Prop :=
  ∀ (i : Instr) (d : Drbg) (s t : State),
    i.opcode.toNat < 0x20 ∨ 0x30 ≤ i.opcode.toNat → exec i s = .next t →
    exec i { s with drbg := d } = .next { t with drbg := d } ∧ t.drbg = s.drbg

/-- 10_state.md R25, 20_memory.md R44, 30_encoding.md R56, R59, R60: run without a DIN byte, a command completes with an error,
or enters DATA_IN for the bytes it declares, or declares none and completes or enters DATA_OUT; run with its declared bytes it
does not wait for DIN again; running a command moves no stream byte; and in DATA_IN the bytes on offer are taken in order, at
most the missing ones, with all of them PHASE is EXEC, and nothing else changes. The bytes on offer and the turns are the
model's fields (log entry 2). That a command is run again from its start with its bytes, and that CTX_CSHAKE enters DATA_IN once,
for A1 + A2 bytes, where R60 and 42_cshake.md R94 have two DinReads, are design choices (log entry 3); that one step takes all
the bytes on offer, at most the missing ones, is the model's reading (log entry 9, DEDUCED). -/
def Obligations.CommandTakesDeclaredBytes : Prop :=
  (∀ (i : Instr) (s t : State), s.phase = .exec [] → exec i s = .next t →
    (t.phase = .idle ∧ t.err ≠ .ok) ∨
    (0 < declaredDin i s ∧ t.phase = .dataIn [] (declaredDin i s)) ∨
    (declaredDin i s = 0 ∧ (t.phase = .idle ∨ ∃ b done, t.phase = .dataOut b done ∧ b ≠ []))) ∧
  (∀ (i : Instr) (s t : State) (taken : List Byte),
    s.phase = .exec taken → taken.length = declaredDin i s → exec i s = .next t →
    t.phase = .idle ∨ ∃ b done, t.phase = .dataOut b done ∧ b ≠ []) ∧
  (∀ (i : Instr) (s t : State), exec i s = .next t →
    t.dinOffer = s.dinOffer ∧ t.doutReady = s.doutReady ∧ t.doutTaken = s.doutTaken) ∧
  (∀ (s : State) (taken : List Byte) (need : Nat),
    s.rst = false → s.phase = .dataIn taken need → (s.turns = [] ∨ ∃ ts, s.turns = .engine :: ts) →
    (∀ d rest : List Byte, s.dinOffer = d ++ rest → d.length = need →
      step s = .next { s with turns := s.turns.tail, phase := .exec (taken ++ d), dinOffer := rest }) ∧
    (s.dinOffer.length < need →
      step s = .next { s with turns := s.turns.tail, dinOffer := [],
                              phase := .dataIn (taken ++ s.dinOffer) (need - s.dinOffer.length) }))

/-- 70_reset_and_hazards.md R147, 10_state.md R25: how the DIN bytes are split over time makes no difference: bytes pushed in
any number of portions, as long as the last portion is the first to bring what is missing, leave what pushing all of them at
once leaves. Portions and turns are the model's form (log entry 2). -/
def Obligations.DinArrivalDoesNotMatter : Prop :=
  ∀ (s : State) (taken : List Byte) (need : Nat) (portions : List (List Byte)) (last : List Byte),
    s.rst = false → s.phase = .dataIn taken need → (s.dinOffer ++ portions.flatten).length < need →
    s.takeTurns ((portions ++ [last]).flatMap fun d => [.host (.offerDin d), .engine]) =
      s.takeTurns [.host (.offerDin (portions.flatten ++ last)), .engine]

/-! ### Frames -/

/-- 40_sponge.md R77 to R82, 42_cshake.md R93, R94: a slot command leaves the parameters, CMD, ARG0 to ARG2, the latches, RST,
the turns, the DRBG registers, the number of slots and every slot but SA as they were. -/
def Obligations.SlotCommandFrame : Prop :=
  ∀ (i : Instr) (s t : State),
    i.opcode.toNat < 0x10 → exec i s = .next t →
    t.params = s.params ∧ t.cmd = s.cmd ∧ t.arg0 = s.arg0 ∧ t.arg1 = s.arg1 ∧ t.arg2 = s.arg2 ∧
    t.a0 = s.a0 ∧ t.a1 = s.a1 ∧ t.a2 = s.a2 ∧ t.rst = s.rst ∧ t.turns = s.turns ∧ t.drbg = s.drbg ∧
    t.slots.length = s.slots.length ∧ (∀ j, j ≠ i.slotA → t.slots[j]? = s.slots[j]?)

/-- 92_eei_decisions.md D33: CTX_STATUS, ENC_LEFT, ENC_BYTEPAD, DRBG_NEED_RESEED, DRBG_READ_FIELD, DIAG_OFFSET and DIAG_REMIX
change no state but STS, RESULT and PHASE with the bytes it holds. -/
def Obligations.QueryCommandFrame : Prop :=
  ∀ (i : Instr) (s t : State),
    (∃ sa, i = .ctxStatus sa) ∨ i = .encLeft ∨ i = .encBytepad ∨ i = .drbgNeedReseed ∨ i = .drbgReadField ∨
      i = .diagOffset ∨ i = .diagRemix →
    exec i s = .next t →
    t = { s with phase := t.phase, err := t.err, lastOp := t.lastOp, result := t.result }

/-- 43_drbg.md R104 to R107, R112, R115: a DRBG command leaves the parameters, CMD, ARG0 to ARG2, the latches, the slots, RST
and the turns as they were; on an active instance DRBG_GENERATE, DRBG_RESEED and DRBG_RESET leave DSTATE, DRATE, DSEEDLEN,
DHASCTX and DFORK, and DRBG_TEST_SET_COUNTER leaves every DRBG register but DCOUNTER. -/
def Obligations.DrbgCommandFrame : Prop :=
  ∀ (i : Instr) (s t : State),
    0x20 ≤ i.opcode.toNat → i.opcode.toNat < 0x30 → s.drbg.good → exec i s = .next t →
    t.params = s.params ∧ t.cmd = s.cmd ∧ t.arg0 = s.arg0 ∧ t.arg1 = s.arg1 ∧ t.arg2 = s.arg2 ∧
    t.a0 = s.a0 ∧ t.a1 = s.a1 ∧ t.a2 = s.a2 ∧ t.slots = s.slots ∧ t.rst = s.rst ∧ t.turns = s.turns ∧
    (i = .drbgGenerate ∨ i = .drbgReseed ∨ i = .drbgReset →
      t.drbg = { s.drbg with dlive := t.drbg.dlive, dnw := t.drbg.dnw, dcounter := t.drbg.dcounter }) ∧
    (i = .drbgTestSetCounter → t.drbg = { s.drbg with dcounter := t.drbg.dcounter })

/-! ### The sponge -/

/-- 20_memory.md R39: state byte j is bits 8(j mod 8)+7 : 8(j mod 8) of lane j div 8; XORing a byte into state byte i XORs it,
shifted, into that lane and no other, and so changes that byte and no other of the 200. -/
def Obligations.StateByteAfterXor : Prop :=
  (∀ (c : Ctx) (j : Nat) (h : j / 8 < 25), c.stateByte j = (c.lanes[j / 8]).extractLsb' (8 * (j % 8)) 8) ∧
  (∀ (c : Ctx) (i : Nat) (v : Byte) (h : i / 8 < 25),
    c.xorByte i v =
      { c with lanes := c.lanes.set (i / 8) (c.lanes[i / 8] ^^^ (v.setWidth 64 <<< (8 * (i % 8)))) }) ∧
  (∀ (c : Ctx) (i j : Nat) (v : Byte), i < 200 → j < 200 →
    (c.xorByte i v).stateByte j = if j = i then c.stateByte j ^^^ v else c.stateByte j)

/-- 40_sponge.md R67, R68: from a cursor below RATE, an absorb ends at cursor (c0 + L) mod RATE and leaves every field but LANES
and CURSOR; until a block fills it changes only the bytes it passes; when the last byte fills the block, the lanes are PERM of
the lanes with each byte XORed in at its place, and the cursor is 0; and absorbing in two parts is absorbing them together. -/
def Obligations.AbsorbArithmetic : Prop :=
  ∀ (p : PermChoice) (c : Ctx) (d : List Byte), c.cursor.toNat < c.rate.toNat →
    (c.absorb p d).cursor.toNat = (c.cursor.toNat + d.length) % c.rate.toNat ∧
    c.absorb p d = { c with lanes := (c.absorb p d).lanes, cursor := (c.absorb p d).cursor } ∧
    (c.rate.toNat ≤ 200 → c.cursor.toNat + d.length < c.rate.toNat →
      ∀ j, j < 200 →
        (c.absorb p d).stateByte j =
          if c.cursor.toNat ≤ j ∧ j < c.cursor.toNat + d.length then c.stateByte j ^^^ d.getD (j - c.cursor.toNat) 0
          else c.stateByte j) ∧
    (c.rate.toNat ≤ 200 → c.cursor.toNat + d.length = c.rate.toNat →
      ∃ x : Ctx, c.absorb p d = { c with lanes := permute p x.lanes, cursor := 0 } ∧
        ∀ j, j < 200 →
          x.stateByte j =
            if c.cursor.toNat ≤ j ∧ j < c.cursor.toNat + d.length then c.stateByte j ^^^ d.getD (j - c.cursor.toNat) 0
            else c.stateByte j) ∧
    (∀ e : List Byte, c.absorb p (d ++ e) = (c.absorb p d).absorb p e)

/-- 40_sponge.md R69, R70, R71: an absorbing context is finalized first, at whatever cursor it stands: DS XORed at the cursor and
0x80 at byte RATE - 1, both on one byte where the cursor is RATE - 1, then PERM, cursor 0, squeezing. From a cursor c0 of a
squeezing context, byte i is state byte c0 + i as long as c0 + n is at most RATE, and the lanes stay; with the cursor at RATE
the next byte comes after PERM, from cursor 0. Squeezing n and then m bytes is squeezing n + m; and where the cursor ends. -/
def Obligations.SqueezeSplitsAndAdvances : Prop :=
  (∀ (p : PermChoice) (c : Ctx) (n : Nat), c.dir = .absorbing →
    c.squeeze p n =
      Ctx.squeeze p
        { c with
          lanes := permute p ((c.xorByte c.cursor.toNat c.ds).xorByte (c.rate.toNat - 1) 0x80).lanes,
          cursor := 0, dir := .squeezing } n) ∧
  (∀ (c : Ctx) (j : Nat), c.cursor.toNat < c.rate.toNat → c.rate.toNat ≤ 200 → j < 200 →
    ((c.xorByte c.cursor.toNat c.ds).xorByte (c.rate.toNat - 1) 0x80).stateByte j =
      if j = c.cursor.toNat ∧ j = c.rate.toNat - 1 then c.stateByte j ^^^ (c.ds ^^^ 0x80)
      else if j = c.cursor.toNat then c.stateByte j ^^^ c.ds
      else if j = c.rate.toNat - 1 then c.stateByte j ^^^ 0x80
      else c.stateByte j) ∧
  (∀ (p : PermChoice) (c : Ctx) (n : Nat), c.dir = .squeezing → c.cursor.toNat + n ≤ c.rate.toNat →
    (c.squeeze p n).1 = (List.range n).map (fun i => c.stateByte (c.cursor.toNat + i)) ∧
    (c.squeeze p n).2 = { c with cursor := c.cursor + BitVec.ofNat 8 n }) ∧
  (∀ (p : PermChoice) (c : Ctx) (n : Nat), c.dir = .squeezing → c.cursor = c.rate → c.rate ≠ 0 → 0 < n →
    c.squeeze p n = Ctx.squeeze p { c with lanes := permute p c.lanes, cursor := 0 } n) ∧
  (∀ (p : PermChoice) (c : Ctx) (n m c0 : Nat),
    (c.squeeze p (n + m)).1 = (c.squeeze p n).1 ++ ((c.squeeze p n).2.squeeze p m).1 ∧
    (c.squeeze p (n + m)).2 = ((c.squeeze p n).2.squeeze p m).2 ∧
    (c.squeeze p n).2.dir = .squeezing ∧
    (0 < c.rate.toNat → c0 = (if c.dir = .absorbing then 0 else c.cursor.toNat) → c0 ≤ c.rate.toNat →
      (c0 + n ≤ c.rate.toNat → (c.squeeze p n).2.cursor.toNat = c0 + n) ∧
      (c.rate.toNat < c0 + n → (c.squeeze p n).2.cursor.toNat = (c0 + n - 1) % c.rate.toNat + 1)))

/-- 40_sponge.md R73, R80, 42_cshake.md R93, R94: resetting a context, whatever has happened to it since, gives the context its
construction gave. -/
def Obligations.ResetRestoresConstruction : Prop :=
  ∀ (p : PermChoice) (extra : Bool) (r : Byte) (n cust : List Byte) (c : Ctx),
    c.valid = true → c.rate = r →
    (c.ds = 0x1F → c.ib = [] → c.resetCtx p extra = newShake r) ∧
    (c.ds = 0x04 → c.ib = initBlock n cust → ¬(n = [] ∧ cust = []) →
      c.resetCtx p extra = newCshake p extra r n cust)

/-! ### Framing -/

/-- 41_framing.md R83, R84: the count byte, the length, the minimal count, the nonzero first value byte, and every value byte. -/
def Obligations.LeftEncodeIsMinimal : Prop :=
  leftEncode 0 = [0x01, 0x00] ∧
  ∀ v : Nat, v < 2 ^ 64 →
    ∃ n : Nat, 1 ≤ n ∧ n ≤ 8 ∧ (leftEncode v)[0]? = some (BitVec.ofNat 8 n) ∧ (leftEncode v).length = n + 1 ∧
      v < 2 ^ (8 * n) ∧ (2 ≤ n → 2 ^ (8 * (n - 1)) ≤ v) ∧ (1 ≤ v → (leftEncode v)[1]? ≠ some 0) ∧
      ∀ i, i < n → (leftEncode v)[i + 1]? = some (BitVec.ofNat 8 (v >>> (8 * (n - 1 - i))))

/-- 41_framing.md R85: where leftDecode is defined and what it returns, that it gives back every encoded value, and that no
shorter string decodes to that value. -/
def Obligations.LeftDecodeOfLeftEncode : Prop :=
  (∀ (n : Byte) (v : List Byte),
    (1 ≤ n.toNat → n.toNat ≤ 8 → v.length = n.toNat →
      leftDecode (n :: v) = some (v.foldl (fun x b => 256 * x + b.toNat) 0)) ∧
    (¬(1 ≤ n.toNat ∧ n.toNat ≤ 8 ∧ v.length = n.toNat) → leftDecode (n :: v) = none)) ∧
  leftDecode [] = none ∧
  ∀ v : Nat, v < 2 ^ 64 →
    leftDecode (leftEncode v) = some v ∧ ∀ e : List Byte, leftDecode e = some v → (leftEncode v).length ≤ e.length

/-- 41_framing.md R86, R87: bytepad's length is a multiple of w, it begins with leftEncode(w) and X, only zeros follow, and as
few as R86 says; and absorbing bytepad(X, RATE) from cursor 0 ends at cursor 0. -/
def Obligations.BytepadAlignsToWidth : Prop :=
  (∀ (extra : Bool) (x : List Byte) (w : Nat), 1 ≤ w →
    ∃ z : Nat, bytepad extra x w = leftEncode w ++ x ++ List.replicate z 0 ∧ (bytepad extra x w).length % w = 0 ∧
      (extra = false → z < w) ∧ (extra = true → 1 ≤ z ∧ z ≤ w)) ∧
  (∀ (extra : Bool) (x : List Byte) (p : PermChoice) (c : Ctx), c.cursor = 0 → 1 ≤ c.rate.toNat →
    (c.absorb p (bytepad extra x c.rate.toNat)).cursor = 0)

/-! ### DRBG helpers -/

/-- 44_drbg_helpers.md R117, R118: the offset as the rotation R117 writes, with Lean's own rotations; it depends on the bytes
only through their XOR, so not on their order; which of 0 to 7 turn the rotation around; and the worked examples of R118. -/
def Obligations.OffsetIgnoresOrder : Prop :=
  (∀ (b : List Byte) (nw : Reg),
    deriveOffset b nw =
      if nw &&& 0xA55A ≠ 0 then
        (b.foldl (· ^^^ ·) 0 + BitVec.ofNat 8 ((nw.toNat + 1) % 256)).rotateRight (nw.toNat % 8)
      else (b.foldl (· ^^^ ·) 0 + BitVec.ofNat 8 ((nw.toNat + 1) % 256)).rotateLeft (nw.toNat % 8)) ∧
  (∀ (a b : List Byte) (nw : Reg), xor8 a = xor8 b → deriveOffset a nw = deriveOffset b nw) ∧
  (∀ (a b : List Byte) (nw : Reg), a.Perm b → deriveOffset a nw = deriveOffset b nw) ∧
  (∀ nw : Reg, nw.toNat ≤ 7 → (nw &&& 0xA55A ≠ 0 ↔ nw = 2 ∨ nw = 3 ∨ nw = 6 ∨ nw = 7)) ∧
  deriveOffset [] 0 = 1 ∧ deriveOffset [] 1 = 4 ∧
  deriveOffset [0x74, 0x65, 0x73, 0x74, 0x20, 0x6d, 0x65, 0x21] 0 = 32 ∧
  deriveOffset [0x74, 0x65, 0x73, 0x74, 0x20, 0x6d, 0x65, 0x21] 1 = 66 ∧
  deriveOffset [0x12, 0x34] 2 = 74 ∧ deriveOffset [0xFF] 7 = 14 ∧ deriveOffset [0x01] 8 = 10 ∧
  deriveOffset [0x00] 255 = 0 ∧ deriveOffset [0x80] 0xA55A = 246

/-- 44_drbg_helpers.md R120, R121: from any cursor c0 below RATE, a non-empty pre-padded absorb does not fail, absorbs
ceil((c0 + o + L) / RATE) * RATE - c0 bytes (o zeros, the data, zeros), ends at cursor 0, still absorbing, and adds 1 to DNW
mod 2^64; an empty one changes nothing. -/
def Obligations.PrePaddedAbsorbArithmetic : Prop :=
  ∀ (p : PermChoice) (c : Ctx) (nw : Reg) (d : List Byte),
    c.dir = .absorbing → c.cursor.toNat < c.rate.toNat →
    prePaddedAbsorb p c nw [] = some (c, nw) ∧
    (d ≠ [] →
      ∃ z : Nat,
        prePaddedAbsorb p c nw d = some (c.absorb p (zeros (deriveOffset d nw).toNat ++ d ++ zeros z), nw + 1) ∧
        c.cursor.toNat + (deriveOffset d nw).toNat + d.length + z =
          (c.cursor.toNat + (deriveOffset d nw).toNat + d.length + c.rate.toNat - 1) / c.rate.toNat * c.rate.toNat ∧
        (c.absorb p (zeros (deriveOffset d nw).toNat ++ d ++ zeros z)).cursor = 0 ∧
        (c.absorb p (zeros (deriveOffset d nw).toNat ++ d ++ zeros z)).dir = .absorbing)

/-- 44_drbg_helpers.md R122, 43_drbg.md R108: the sizes of Generate, and the window inside the scratch buffer and inside its
first 280 bytes. -/
def Obligations.WindowInsideScratch : Prop :=
  ∀ (outLen r : Nat) (scratch : List Byte) (nw : Reg),
    r = 136 ∨ r = 168 → 1 ≤ outLen → scratch.length = scratchLen outLen r →
    r * generateBlocks outLen r < scratch.length + 1 ∧ scratch.length + 1 ≤ r * (generateBlocks outLen r + 1) ∧
    271 ≤ scratch.length ∧ outLen ≤ scratch.length ∧
    windowStart scratch nw + 25 ≤ scratch.length ∧ windowStart scratch nw ≤ 255 ∧
    (272 ≤ scratch.length → windowStart scratch nw = (deriveOffset scratch nw).toNat)

/-- 44_drbg_helpers.md R123, R124: Remix perturbs a window exactly when it is constant, then runs the core: the 600 ordered
pairs (i, j), j different from i, in the order of the loops, with t counting them; step t XORs into byte i, and no other, the
complement, a right rotation or a left rotation of byte j as it then stands, by t AND 7; how many steps do each; each step and
so the core is a bijection on 25-byte strings; the perturbation of a constant window gives a window that is not constant, and
so Remix is not injective: zeros and 1, 2, ..., 25 collide, on the value R124 gives. The rotations are Lean's own. -/
def Obligations.RemixCoreIsInjective : Prop :=
  (∀ w : List Byte, w.length = 25 →
    ((∃ v, w = List.replicate 25 v) → remix w = remixCore (w.mapIdx fun i b => b ^^^ BitVec.ofNat 8 (i + 1))) ∧
    (¬(∃ v, w = List.replicate 25 v) → remix w = remixCore w)) ∧
  (∀ (t : Nat) (b : Byte),
    (t &&& 0x07 = 0 → remixTerm t b = ~~~b) ∧
    (t &&& 0x07 ≠ 0 → t &&& 0x0A ≠ 0 → remixTerm t b = b.rotateRight (t &&& 0x07)) ∧
    (t &&& 0x07 ≠ 0 → t &&& 0x0A = 0 →
      remixTerm t b = b.rotateLeft (t &&& 0x07) ∧ (t % 16 = 1 ∨ t % 16 = 4 ∨ t % 16 = 5))) ∧
  (∀ (i j t k : Nat) (b : List Byte), b.length = 25 → i < 25 → j < 25 → k < 25 →
    (remixStep b ((i, j), t)).length = 25 ∧
    (remixStep b ((i, j), t)).getD k 0 =
      if k = i then b.getD i 0 ^^^ remixTerm t (b.getD j 0) else b.getD k 0) ∧
  (∀ b : List Byte, remixCore b =
    (List.range 600).foldl (fun x t => remixStep x (remixPairs.getD t (0, 0), t)) b) ∧
  remixPairs.length = 600 ∧ (∀ i j : Nat, (i, j) ∈ remixPairs ↔ i < 25 ∧ j < 25 ∧ j ≠ i) ∧
  remixPairs.Pairwise (fun x y => x.1 < y.1 ∨ (x.1 = y.1 ∧ x.2 < y.2)) ∧
  ((List.range 600).filter fun t => ∀ b, remixTerm t b = ~~~b).length = 75 ∧
  ((List.range 600).filter fun t => t &&& 0x07 ≠ 0 ∧ t &&& 0x0A ≠ 0 ∧
    ∀ b, remixTerm t b = b.rotateRight (t &&& 0x07)).length = 411 ∧
  ((List.range 600).filter fun t => t &&& 0x07 ≠ 0 ∧ t &&& 0x0A = 0 ∧
    ∀ b, remixTerm t b = b.rotateLeft (t &&& 0x07)).length = 114 ∧
  (∀ (i j t : Nat) (a b : List Byte), i < 25 → j < 25 → j ≠ i → a.length = 25 → b.length = 25 →
    remixStep a ((i, j), t) = remixStep b ((i, j), t) → a = b) ∧
  (∀ a b : List Byte, a.length = 25 → b.length = 25 → remixCore a = remixCore b → a = b) ∧
  (∀ b : List Byte, b.length = 25 → ∃ a : List Byte, a.length = 25 ∧ remixCore a = b) ∧
  (∀ v : Byte, perturb (List.replicate 25 v) = (List.range 25).map (fun i => v ^^^ BitVec.ofNat 8 (i + 1)) ∧
    allEqual (perturb (List.replicate 25 v)) = false) ∧
  remix (List.replicate 25 0) = remix ((List.range 25).map fun i => BitVec.ofNat 8 (i + 1)) ∧
  remix (List.replicate 25 0) =
    [0x7c, 0xa1, 0x45, 0xa6, 0x67, 0xc6, 0x4b, 0xcb, 0xcd, 0x8b, 0x48, 0x9d, 0x4d, 0xb9, 0xce, 0x0a, 0x9d, 0xb1, 0x55,
      0xb6, 0x77, 0xd6, 0x5b, 0xdb, 0xdd]

/-- 43_drbg.md R109: for a context that is absorbing at cursor 0, absorbing the replay pad and then k zero blocks gives the lanes
that squeezing (k + 1) * r - 1 bytes gives, which are PERM applied k + 1 times to the lanes with DS XORed in at byte 0 and
0x80 at byte r - 1; the fork stays absorbing at cursor 0, and the squeezed context ends at cursor r - 1. -/
def Obligations.ReplayEquivalence : Prop :=
  ∀ (p : PermChoice) (c : Ctx) (k : Nat),
    c.dir = .absorbing → c.cursor = 0 → 2 ≤ c.rate.toNat → c.rate.toNat ≤ 200 →
    ∃ fork, replayFork p c.rate.toNat k c.ds c = some fork ∧
      fork.lanes = (c.squeeze p ((k + 1) * c.rate.toNat - 1)).2.lanes ∧
      fork.lanes = (permute p)^[k + 1] ((c.xorByte 0 c.ds).xorByte (c.rate.toNat - 1) 0x80).lanes ∧
      fork.dir = .absorbing ∧ fork.cursor = 0 ∧
      (c.squeeze p ((k + 1) * c.rate.toNat - 1)).2.cursor.toNat = c.rate.toNat - 1

/-- 43_drbg.md R103: no command but DRBG_TEST_SET_COUNTER takes DCOUNTER above 2^48 + 1. -/
def Obligations.CounterStaysBounded : Prop :=
  ∀ (i : Instr) (s t : State),
    i ≠ .drbgTestSetCounter → s.drbg.dcounter.toNat ≤ 2 ^ 48 + 1 → exec i s = .next t →
    t.drbg.dcounter.toNat ≤ 2 ^ 48 + 1

/-! ### The commands, one by one
A command that declares DIN bytes is run once to enter DATA_IN and once more with the bytes that have arrived: `s.dinTaken` and
the second run are the model's form (log entry 3). Output is on offer when DATA_OUT begins, with the command's effects done: log
entry 10; the bytes then move as DataOutMovesBytesInOrder says. -/

/-- CTX_SHAKE, 42_cshake.md R93. -/
def Obligations.CtxShakeBuildsPlainContext : Prop :=
  ∀ (sa : Nat) (s : State),
    (s.slots.length ≤ sa → exec (.ctxShake sa) s = .next (s.completed 0x01 .badSlot 0)) ∧
    (sa < s.slots.length → s.a0 ≠ 128 → s.a0 ≠ 256 →
      exec (.ctxShake sa) s = .next (s.completed 0x01 .badArg 0)) ∧
    (∀ r : Byte, sa < s.slots.length → (s.a0 = 128 ∧ r = 168) ∨ (s.a0 = 256 ∧ r = 136) →
      exec (.ctxShake sa) s = .next (State.completed
        { s with
          slots := s.slots.set sa
            { valid := true, lanes := Vector.replicate 25 0, rate := r, ds := 0x1F, cursor := 0, dir := .absorbing,
              ib := [] } }
        0x01 .ok 0))

/-- CTX_CSHAKE, 42_cshake.md R94, R96. -/
def Obligations.CtxCshakeBuildsCustomContext : Prop :=
  ∀ (sa : Nat) (s : State),
    (s.slots.length ≤ sa → exec (.ctxCshake sa) s = .next (s.completed 0x02 .badSlot 0)) ∧
    (sa < s.slots.length → s.a0 ≠ 128 → s.a0 ≠ 256 →
      exec (.ctxCshake sa) s = .next (s.completed 0x02 .badArg 0)) ∧
    (sa < s.slots.length → s.a0 = 128 ∨ s.a0 = 256 →
      s.params.maxNsLen.val < s.a1.toNat ∨ s.params.maxNsLen.val < s.a2.toNat →
      exec (.ctxCshake sa) s = .next (s.completed 0x02 .badArg 0)) ∧
    (sa < s.slots.length → s.a0 = 128 ∨ s.a0 = 256 →
      s.a1.toNat ≤ s.params.maxNsLen.val → s.a2.toNat ≤ s.params.maxNsLen.val →
      s.dinTaken.length < s.a1.toNat + s.a2.toNat →
      exec (.ctxCshake sa) s = .next (s.awaiting (s.a1.toNat + s.a2.toNat))) ∧
    (∀ (r : Byte) (n cust : List Byte),
      sa < s.slots.length → (s.a0 = 128 ∧ r = 168) ∨ (s.a0 = 256 ∧ r = 136) →
      s.a1.toNat ≤ s.params.maxNsLen.val → s.a2.toNat ≤ s.params.maxNsLen.val →
      s.dinTaken = n ++ cust → n.length = s.a1.toNat → cust.length = s.a2.toNat →
      exec (.ctxCshake sa) s = .next (State.completed
        { s with
          slots := s.slots.set sa
            (if n = [] ∧ cust = [] then
              { valid := true, lanes := Vector.replicate 25 0, rate := r, ds := 0x1F, cursor := 0, dir := .absorbing,
                ib := [] }
            else
              Ctx.absorb s.params.perm
                { valid := true, lanes := Vector.replicate 25 0, rate := r, ds := 0x04, cursor := 0,
                  dir := .absorbing,
                  ib := leftEncode (8 * n.length) ++ n ++ leftEncode (8 * cust.length) ++ cust }
                (bytepad s.params.bytepadExtraAligned
                  (leftEncode (8 * n.length) ++ n ++ leftEncode (8 * cust.length) ++ cust) r.toNat)) }
        0x02 .ok 0))

/-- 42_cshake.md R96: with N and S empty CTX_CSHAKE does what CTX_SHAKE does, its errors included; only LASTOP tells them
apart. -/
def Obligations.EmptyCustomizationIsPlain : Prop :=
  ∀ (sa : Nat) (s t : State), s.a1 = 0 → s.a2 = 0 → exec (.ctxShake sa) s = .next t →
    exec (.ctxCshake sa) s = .next { t with lastOp := 0x02 }

/-- CTX_ABSORB, 40_sponge.md R77. -/
def Obligations.CtxAbsorbAbsorbsDin : Prop :=
  ∀ (sa : Nat) (s : State),
    (s.slots.length ≤ sa → exec (.ctxAbsorb sa) s = .next (s.completed 0x03 .badSlot 0)) ∧
    (∀ c, s.slots[sa]? = some c → c.valid = false →
      exec (.ctxAbsorb sa) s = .next (s.completed 0x03 .slotEmpty 0)) ∧
    (∀ c, s.slots[sa]? = some c → c.valid = true → c.dir = .squeezing →
      exec (.ctxAbsorb sa) s = .next (s.completed 0x03 .absorbAfterSqueeze 0)) ∧
    (∀ c, s.slots[sa]? = some c → c.valid = true → c.dir = .absorbing →
      s.dinTaken.length < s.a0.toNat →
      exec (.ctxAbsorb sa) s = .next (s.awaiting s.a0.toNat)) ∧
    (∀ (c : Ctx) (d : List Byte), s.slots[sa]? = some c → c.valid = true → c.dir = .absorbing →
      s.dinTaken = d → d.length = s.a0.toNat →
      exec (.ctxAbsorb sa) s = .next (State.completed
        { s with slots := s.slots.set sa (c.absorb s.params.perm d) } 0x03 .ok 0))

/-- CTX_SQUEEZE, 40_sponge.md R78. -/
def Obligations.CtxSqueezeEmitsBytes : Prop :=
  ∀ (sa : Nat) (s : State),
    (s.slots.length ≤ sa → exec (.ctxSqueeze sa) s = .next (s.completed 0x04 .badSlot 0)) ∧
    (∀ c, s.slots[sa]? = some c → c.valid = false →
      exec (.ctxSqueeze sa) s = .next (s.completed 0x04 .slotEmpty 0)) ∧
    (∀ (c after : Ctx) (b : List Byte), s.slots[sa]? = some c → c.valid = true →
      c.squeeze s.params.perm s.a0.toNat = (b, after) →
      after.dir = .squeezing ∧ b.length = s.a0.toNat ∧
      (s.a0 = 0 →
        exec (.ctxSqueeze sa) s = .next (State.completed { s with slots := s.slots.set sa after } 0x04 .ok 0)) ∧
      (s.a0 ≠ 0 →
        exec (.ctxSqueeze sa) s = .next (State.offering { s with slots := s.slots.set sa after } 0x04 b)))

/-- CTX_CLONE, 40_sponge.md R79. -/
def Obligations.CtxCloneCopiesSlot : Prop :=
  ∀ (dst src : Nat) (s : State),
    (s.slots.length ≤ dst ∨ s.slots.length ≤ src →
      exec (.ctxClone dst src) s = .next (s.completed 0x05 .badSlot 0)) ∧
    (∀ c, dst < s.slots.length → s.slots[src]? = some c → c.valid = false →
      exec (.ctxClone dst src) s = .next (s.completed 0x05 .slotEmpty 0)) ∧
    (∀ c, dst < s.slots.length → s.slots[src]? = some c → c.valid = true →
      exec (.ctxClone dst src) s =
        .next (State.completed { s with slots := s.slots.set dst c } 0x05 .ok 0)) ∧
    (∀ c, s.slots[src]? = some c → c.valid = true → dst = src →
      exec (.ctxClone dst src) s = .next (s.completed 0x05 .ok 0))

/-- CTX_RESET, 40_sponge.md R80. -/
def Obligations.CtxResetRebuildsSlot : Prop :=
  ∀ (sa : Nat) (s : State),
    (s.slots.length ≤ sa → exec (.ctxReset sa) s = .next (s.completed 0x06 .badSlot 0)) ∧
    (∀ c, s.slots[sa]? = some c → c.valid = false →
      exec (.ctxReset sa) s = .next (s.completed 0x06 .slotEmpty 0)) ∧
    (∀ c, s.slots[sa]? = some c → c.valid = true →
      exec (.ctxReset sa) s = .next (State.completed
        { s with
          slots := s.slots.set sa
            (if c.ib = [] then { c with lanes := Vector.replicate 25 0, cursor := 0, dir := .absorbing }
             else Ctx.absorb s.params.perm { c with lanes := Vector.replicate 25 0, cursor := 0, dir := .absorbing }
               (bytepad s.params.bytepadExtraAligned c.ib c.rate.toNat)) }
        0x06 .ok 0))

/-- CTX_FREE, 40_sponge.md R81. -/
def Obligations.CtxFreeClearsSlot : Prop :=
  ∀ (sa : Nat) (s : State),
    (s.slots.length ≤ sa → exec (.ctxFree sa) s = .next (s.completed 0x07 .badSlot 0)) ∧
    (sa < s.slots.length →
      exec (.ctxFree sa) s = .next (State.completed
        { s with
          slots := s.slots.set sa
            { valid := false, lanes := Vector.replicate 25 0, rate := 0, ds := 0, cursor := 0, dir := .absorbing,
              ib := [] } }
        0x07 .ok 0))

/-- CTX_STATUS, 40_sponge.md R82. -/
def Obligations.CtxStatusReportsFields : Prop :=
  ∀ (sa : Nat) (s : State),
    (s.slots.length ≤ sa → exec (.ctxStatus sa) s = .next (s.completed 0x08 .badSlot 0)) ∧
    (∀ c, s.slots[sa]? = some c → c.valid = false →
      exec (.ctxStatus sa) s = .next (s.completed 0x08 .ok 0)) ∧
    (∀ c, s.slots[sa]? = some c → c.valid = true → c.ib.length < 2 ^ 16 →
      ∃ v : Reg, exec (.ctxStatus sa) s = .next (s.completed 0x08 .ok v) ∧
        v.extractLsb' 0 1 = 1 ∧ v.extractLsb' 1 1 = (if c.dir = .absorbing then 0 else 1) ∧ v.extractLsb' 2 6 = 0 ∧
        v.extractLsb' 8 8 = c.ds ∧ v.extractLsb' 16 8 = c.rate ∧ v.extractLsb' 24 8 = c.cursor ∧
        (v.extractLsb' 32 16).toNat = c.ib.length ∧ v.extractLsb' 48 16 = 0)

/-- ENC_LEFT, 41_framing.md R89. -/
def Obligations.EncLeftEmitsEncoding : Prop :=
  ∀ s : State,
    exec .encLeft s = .next (s.offering 0x10 (leftEncode s.a0.toNat)) ∧
    2 ≤ (leftEncode s.a0.toNat).length ∧ (leftEncode s.a0.toNat).length ≤ 9

/-- ENC_BYTEPAD, 41_framing.md R90. -/
def Obligations.EncBytepadEmitsPadding : Prop :=
  ∀ s : State,
    (s.a0 = 0 ∨ 2 ^ 32 < s.a0.toNat ∨ 2 ^ 32 < s.a1.toNat →
      exec .encBytepad s = .next (s.completed 0x11 .badArg 0)) ∧
    (s.a0 ≠ 0 → s.a0.toNat ≤ 2 ^ 32 → s.a1.toNat ≤ 2 ^ 32 →
      s.dinTaken.length < s.a1.toNat → exec .encBytepad s = .next (s.awaiting s.a1.toNat)) ∧
    (∀ x : List Byte, s.a0 ≠ 0 → s.a0.toNat ≤ 2 ^ 32 → s.a1.toNat ≤ 2 ^ 32 →
      s.dinTaken = x → x.length = s.a1.toNat →
      exec .encBytepad s = .next (s.offering 0x11 (bytepad s.params.bytepadExtraAligned x s.a0.toNat)))

/-- DRBG_NEW, 43_drbg.md R104. -/
def Obligations.DrbgNewCreatesInstance : Prop :=
  ∀ s : State,
    (s.drbg.dstate = .active → exec .drbgNew s = .next (s.completed 0x20 .instanceActive 0)) ∧
    (s.drbg.dstate ≠ .active → s.a0 ≠ 128 → s.a0 ≠ 256 →
      exec .drbgNew s = .next (s.completed 0x20 .unsupportedStrength 0)) ∧
    (∀ r sl : Byte, s.drbg.dstate ≠ .active →
      (s.a0 = 128 ∧ r = 168 ∧ sl = 32) ∨ (s.a0 = 256 ∧ r = 136 ∧ sl = 64) →
      (s.a1.toNat < sl.toNat / 2 ∨ 2 ^ 32 < s.a1.toNat →
        exec .drbgNew s = .next (s.completed 0x20 .validation 0)) ∧
      (sl.toNat / 2 ≤ s.a1.toNat → s.a1.toNat ≤ 2 ^ 32 → s.dinTaken.length < s.a1.toNat →
        exec .drbgNew s = .next (s.awaiting s.a1.toNat)) ∧
      (∀ seed : List Byte, sl.toNat / 2 ≤ s.a1.toNat → s.a1.toNat ≤ 2 ^ 32 →
        s.dinTaken = seed → seed.length = s.a1.toNat →
        exec .drbgNew s = .next (State.completed
          { s with
            drbg :=
              { dstate := .active, drate := r, dseedlen := sl, dcounter := 0, dnw := 1, dhasctx := true,
                dlive := Ctx.absorb s.params.perm
                  { valid := true, lanes := Vector.replicate 25 0, rate := r, ds := 0x1F, cursor := 0,
                    dir := .absorbing, ib := [] }
                  (padded r.toNat (deriveOffset seed 0).toNat seed),
                dfork := s.drbg.dfork } }
          0x20 .ok 0)))

/-- The errors of an instance that is not ACTIVE, 43_drbg.md R100: DRBG_GENERATE, DRBG_RESEED, DRBG_RESET and DRBG_NEED_RESEED
always, DRBG_TEST_SET_COUNTER when TEST_MODE is 1. -/
def Obligations.InactiveInstanceRejects : Prop :=
  ∀ (i : Instr) (s : State),
    i = .drbgGenerate ∨ i = .drbgReseed ∨ i = .drbgReset ∨ i = .drbgNeedReseed ∨
      (i = .drbgTestSetCounter ∧ s.params.testMode = true) →
    (s.drbg.dstate = .empty → exec i s = .next (s.completed i.opcode .noInstance 0)) ∧
    (s.drbg.dstate = .destroyed → exec i s = .next (s.completed i.opcode .destroyed 0))

/-- DRBG_RESEED, 43_drbg.md R105, R102. -/
def Obligations.DrbgReseedAbsorbsSeed : Prop :=
  ∀ s : State, s.drbg.good →
    (s.drbg.dstate = .empty → exec .drbgReseed s = .next (s.completed 0x22 .noInstance 0)) ∧
    (s.drbg.dstate = .destroyed → exec .drbgReseed s = .next (s.completed 0x22 .destroyed 0)) ∧
    (s.drbg.dstate = .active → s.a0.toNat < s.drbg.dseedlen.toNat / 2 ∨ 2 ^ 32 < s.a0.toNat →
      exec .drbgReseed s = .next (s.completed 0x22 .validation 0)) ∧
    (s.drbg.dstate = .active → s.drbg.dseedlen.toNat / 2 ≤ s.a0.toNat → s.a0.toNat ≤ 2 ^ 32 →
      s.dinTaken.length < s.a0.toNat → exec .drbgReseed s = .next (s.awaiting s.a0.toNat)) ∧
    (∀ seed : List Byte, s.drbg.dstate = .active →
      s.drbg.dseedlen.toNat / 2 ≤ s.a0.toNat → s.a0.toNat ≤ 2 ^ 32 →
      s.dinTaken = seed → seed.length = s.a0.toNat →
      exec .drbgReseed s = .next (State.completed
        { s with
          drbg := { s.drbg with
            dlive := absorbPadded s.params.perm s.drbg.dlive s.drbg.dnw seed, dnw := s.drbg.dnw + 1, dcounter := 0 } }
        0x22 .ok 0))

/-- DRBG_RESET, 43_drbg.md R106, 90_conflicts.md C3: the rebuild comes first and stays on a length error. -/
def Obligations.DrbgResetRebuildsFirst : Prop :=
  ∀ (s : State) (blank : Ctx), s.drbg.good →
    blank = { s.drbg.dlive with lanes := Vector.replicate 25 0, cursor := 0, dir := .absorbing } →
    (s.drbg.dstate = .empty → exec .drbgReset s = .next (s.completed 0x23 .noInstance 0)) ∧
    (s.drbg.dstate = .destroyed → exec .drbgReset s = .next (s.completed 0x23 .destroyed 0)) ∧
    (s.drbg.dstate = .active → s.a0.toNat < s.drbg.dseedlen.toNat / 2 ∨ 2 ^ 32 < s.a0.toNat →
      exec .drbgReset s =
        .next (State.completed { s with drbg := { s.drbg with dlive := blank } } 0x23 .validation 0)) ∧
    (s.drbg.dstate = .active → s.drbg.dseedlen.toNat / 2 ≤ s.a0.toNat → s.a0.toNat ≤ 2 ^ 32 →
      s.dinTaken.length < s.a0.toNat →
      exec .drbgReset s = .next (State.awaiting { s with drbg := { s.drbg with dlive := blank } } s.a0.toNat)) ∧
    (∀ seed : List Byte, s.drbg.dstate = .active →
      s.drbg.dseedlen.toNat / 2 ≤ s.a0.toNat → s.a0.toNat ≤ 2 ^ 32 →
      s.dinTaken = seed → seed.length = s.a0.toNat →
      exec .drbgReset s = .next (State.completed
        { s with
          drbg := { s.drbg with
            dlive := absorbPadded s.params.perm blank s.drbg.dnw seed, dnw := s.drbg.dnw + 1, dcounter := 0 } }
        0x23 .ok 0))

/-- DRBG_GENERATE where it refuses or waits, 43_drbg.md R107 steps 1 and 2. -/
def Obligations.DrbgGenerateRefusals : Prop :=
  ∀ s : State, s.drbg.dstate = .active →
    (2 ^ 48 < s.drbg.dcounter.toNat → exec .drbgGenerate s = .next (s.completed 0x21 .reseedRequired 0)) ∧
    (s.drbg.dcounter.toNat ≤ 2 ^ 48 → s.a0 = 0 ∨ s.params.maxRequest < s.a0.toNat ∨ 2 ^ 32 < s.a1.toNat →
      exec .drbgGenerate s = .next (s.completed 0x21 .validation 0)) ∧
    (s.drbg.dcounter.toNat ≤ 2 ^ 48 → s.a0 ≠ 0 → s.a0.toNat ≤ s.params.maxRequest → s.a1.toNat ≤ 2 ^ 32 →
      s.dinTaken.length < s.a1.toNat → exec .drbgGenerate s = .next (s.awaiting s.a1.toNat))

/-- DRBG_GENERATE where it completes, 43_drbg.md R107 steps 3 to 8 and R110: the output is the first A0 bytes squeezed from the
live context after the pre-padded absorb of additionalIn; the live context becomes the fork, which has absorbed the replay pad
and k zero blocks and then, pre-padded, the remixed window; DNW and DCOUNTER advance; DFORK is zero again. R107 writes the
output before steps 6 to 8; that they are done when the output goes on offer is log entry 10, which rests on 30_encoding.md
R61. -/
def Obligations.DrbgGenerateEmitsAndEvolves : Prop :=
  ∀ (s : State) (add scratch : List Byte) (live squeezed fork : Ctx) (r k w : Nat) (nw : Reg),
    s.drbg.good → s.drbg.dstate = .active → s.drbg.dcounter.toNat ≤ 2 ^ 48 →
    s.a0 ≠ 0 → s.a0.toNat ≤ s.params.maxRequest → s.a1.toNat ≤ 2 ^ 32 →
    s.dinTaken = add → add.length = s.a1.toNat →
    r = s.drbg.drate.toNat → k = (s.a0.toNat + r - 1) / r →
    live = absorbPadded s.params.perm s.drbg.dlive s.drbg.dnw add →
    nw = s.drbg.dnw + (if add = [] then 0 else 1) →
    live.squeeze s.params.perm ((k + 1) * r - 1) = (scratch, squeezed) →
    w = (deriveOffset scratch nw).toNat % ((k + 1) * r - 1 - 24) →
    fork = live.absorb s.params.perm
      ((0x1F :: List.replicate (r - 2) 0) ++ [0x80] ++ (List.replicate k (List.replicate r 0)).flatten) →
    ∃ after : State,
      after =
        { s with
          drbg := { s.drbg with
            dlive := absorbPadded s.params.perm fork nw (remix ((scratch.drop w).take 25)),
            dnw := s.drbg.dnw + (if add = [] then 1 else 2),
            dcounter := s.drbg.dcounter + 1 } } ∧
      (scratch.take s.a0.toNat).length = s.a0.toNat ∧
      exec .drbgGenerate s = .next (after.offering 0x21 (scratch.take s.a0.toNat))

/-- DRBG_DESTROY, 43_drbg.md R112. -/
def Obligations.DrbgDestroyClearsRegisters : Prop :=
  ∀ s : State,
    (s.drbg.dstate = .active →
      exec .drbgDestroy s = .next (State.completed
        { s with drbg :=
            { dstate := .destroyed, drate := 0, dseedlen := 0, dcounter := 0, dnw := 0, dhasctx := false,
              dlive := { valid := false, lanes := Vector.replicate 25 0, rate := 0, ds := 0, cursor := 0,
                         dir := .absorbing, ib := [] },
              dfork := { valid := false, lanes := Vector.replicate 25 0, rate := 0, ds := 0, cursor := 0,
                         dir := .absorbing, ib := [] } } }
        0x24 .ok 0)) ∧
    (s.drbg.dstate ≠ .active → exec .drbgDestroy s = .next (s.completed 0x24 .ok 0))

/-- DRBG_NEED_RESEED, 43_drbg.md R113: RESULT is 1 exactly when DCOUNTER > 2^48, which is when the next DRBG_GENERATE, whatever
its operands, is refused with ERR_RESEED_REQUIRED. -/
def Obligations.DrbgNeedReseedPredictsRefusal : Prop :=
  ∀ s : State,
    (s.drbg.dstate = .empty → exec .drbgNeedReseed s = .next (s.completed 0x25 .noInstance 0)) ∧
    (s.drbg.dstate = .destroyed → exec .drbgNeedReseed s = .next (s.completed 0x25 .destroyed 0)) ∧
    (s.drbg.dstate = .active → 2 ^ 48 < s.drbg.dcounter.toNat →
      exec .drbgNeedReseed s = .next (s.completed 0x25 .ok 1) ∧
      exec .drbgGenerate s = .next (s.completed 0x21 .reseedRequired 0)) ∧
    (s.drbg.dstate = .active → s.drbg.dcounter.toNat ≤ 2 ^ 48 →
      exec .drbgNeedReseed s = .next (s.completed 0x25 .ok 0) ∧
      exec .drbgGenerate s ≠ .next (s.completed 0x21 .reseedRequired 0))

/-- DRBG_READ_FIELD, 43_drbg.md R114. -/
def Obligations.DrbgReadFieldReadsRegisters : Prop :=
  ∀ s : State,
    (5 < s.a0.toNat → exec .drbgReadField s = .next (s.completed 0x26 .badArg 0)) ∧
    (s.a0 = 0 → exec .drbgReadField s = .next (s.completed 0x26 .ok
      (match s.drbg.dstate with
        | .empty => 0
        | .active => 1
        | .destroyed => 2))) ∧
    (s.a0 = 1 → exec .drbgReadField s = .next (s.completed 0x26 .ok (s.drbg.drate.setWidth 64))) ∧
    (s.a0 = 2 → exec .drbgReadField s = .next (s.completed 0x26 .ok (s.drbg.dseedlen.setWidth 64))) ∧
    (s.a0 = 3 → exec .drbgReadField s = .next (s.completed 0x26 .ok s.drbg.dcounter)) ∧
    (s.a0 = 4 → exec .drbgReadField s = .next (s.completed 0x26 .ok s.drbg.dnw)) ∧
    (s.a0 = 5 → exec .drbgReadField s = .next (s.completed 0x26 .ok (if s.drbg.dhasctx then 1 else 0)))

/-- DRBG_TEST_SET_COUNTER, 43_drbg.md R115, 60_exceptions.md R136. -/
def Obligations.DrbgTestSetCounterNeedsStrap : Prop :=
  ∀ s : State,
    (s.params.testMode = false → exec .drbgTestSetCounter s = .next (s.completed 0x27 .testDisabled 0)) ∧
    (s.params.testMode = true → s.drbg.dstate = .empty →
      exec .drbgTestSetCounter s = .next (s.completed 0x27 .noInstance 0)) ∧
    (s.params.testMode = true → s.drbg.dstate = .destroyed →
      exec .drbgTestSetCounter s = .next (s.completed 0x27 .destroyed 0)) ∧
    (s.params.testMode = true → s.drbg.dstate = .active →
      exec .drbgTestSetCounter s =
        .next (State.completed { s with drbg := { s.drbg with dcounter := s.a0 } } 0x27 .ok 0))

/-- DIAG_OFFSET, 44_drbg_helpers.md R125. -/
def Obligations.DiagOffsetReportsOffset : Prop :=
  ∀ s : State,
    (2 ^ 32 < s.a1.toNat → exec .diagOffset s = .next (s.completed 0x30 .badArg 0)) ∧
    (s.a1.toNat ≤ 2 ^ 32 → s.dinTaken.length < s.a1.toNat →
      exec .diagOffset s = .next (s.awaiting s.a1.toNat)) ∧
    (∀ d : List Byte, s.a1.toNat ≤ 2 ^ 32 → s.dinTaken = d → d.length = s.a1.toNat →
      exec .diagOffset s =
        .next (s.completed 0x30 .ok ((deriveOffset d s.a0).setWidth 64)))

/-- DIAG_REMIX, 44_drbg_helpers.md R126. -/
def Obligations.DiagRemixEmitsRemix : Prop :=
  ∀ s : State,
    (s.dinTaken.length < 25 → exec .diagRemix s = .next (s.awaiting 25)) ∧
    (∀ w : List Byte, s.dinTaken = w → w.length = 25 →
      exec .diagRemix s = .next (s.offering 0x31 (remix w)))
end

