-- ==== Sys2Proof/Laws/Sponge.lean ====
section
/-! SUPPORT. What the sponge operations leave alone, and their small laws. -/

namespace Sys2Proof.Machine

variable (p : PermChoice) (c : Ctx)

/-! ### One byte -/

@[simp] theorem Ctx.xorByte_valid (i : Nat) (v : Byte) : (c.xorByte i v).valid = c.valid := rfl
@[simp] theorem Ctx.xorByte_rate (i : Nat) (v : Byte) : (c.xorByte i v).rate = c.rate := rfl
@[simp] theorem Ctx.xorByte_ds (i : Nat) (v : Byte) : (c.xorByte i v).ds = c.ds := rfl
@[simp] theorem Ctx.xorByte_cursor (i : Nat) (v : Byte) : (c.xorByte i v).cursor = c.cursor := rfl
@[simp] theorem Ctx.xorByte_dir (i : Nat) (v : Byte) : (c.xorByte i v).dir = c.dir := rfl
@[simp] theorem Ctx.xorByte_ib (i : Nat) (v : Byte) : (c.xorByte i v).ib = c.ib := rfl

/-- What one absorbed byte leaves alone: everything but LANES and CURSOR (40_sponge.md R67). -/
theorem Ctx.absorbByte_keeps (v : Byte) :
    (c.absorbByte p v).valid = c.valid ∧ (c.absorbByte p v).rate = c.rate ∧ (c.absorbByte p v).ds = c.ds ∧
    (c.absorbByte p v).dir = c.dir ∧ (c.absorbByte p v).ib = c.ib := by
  simp only [Ctx.absorbByte]
  split <;> simp

@[simp] theorem Ctx.absorbByte_valid (v : Byte) : (c.absorbByte p v).valid = c.valid := (c.absorbByte_keeps p v).1
@[simp] theorem Ctx.absorbByte_rate (v : Byte) : (c.absorbByte p v).rate = c.rate := (c.absorbByte_keeps p v).2.1
@[simp] theorem Ctx.absorbByte_ds (v : Byte) : (c.absorbByte p v).ds = c.ds := (c.absorbByte_keeps p v).2.2.1
@[simp] theorem Ctx.absorbByte_dir (v : Byte) : (c.absorbByte p v).dir = c.dir := (c.absorbByte_keeps p v).2.2.2.1
@[simp] theorem Ctx.absorbByte_ib (v : Byte) : (c.absorbByte p v).ib = c.ib := (c.absorbByte_keeps p v).2.2.2.2

/-! ### Absorb -/

@[simp] theorem Ctx.absorb_nil : c.absorb p [] = c := rfl

@[simp] theorem Ctx.absorb_cons (v : Byte) (d : List Byte) :
    c.absorb p (v :: d) = (c.absorbByte p v).absorb p d := rfl

/-- Absorbing in two parts (40_sponge.md R68). -/
theorem Ctx.absorb_append (d e : List Byte) : c.absorb p (d ++ e) = (c.absorb p d).absorb p e :=
  List.foldl_append

/-- What an absorb leaves alone: everything but LANES and CURSOR (40_sponge.md R67). -/
theorem Ctx.absorb_keeps (d : List Byte) :
    (c.absorb p d).valid = c.valid ∧ (c.absorb p d).rate = c.rate ∧ (c.absorb p d).ds = c.ds ∧
    (c.absorb p d).dir = c.dir ∧ (c.absorb p d).ib = c.ib := by
  induction d generalizing c with
  | nil => simp
  | cons v d ih =>
    obtain ⟨h1, h2, h3, h4, h5⟩ := ih (c.absorbByte p v)
    obtain ⟨g1, g2, g3, g4, g5⟩ := c.absorbByte_keeps p v
    simp only [Ctx.absorb_cons]
    exact ⟨h1.trans g1, h2.trans g2, h3.trans g3, h4.trans g4, h5.trans g5⟩

@[simp] theorem Ctx.absorb_valid (d : List Byte) : (c.absorb p d).valid = c.valid := (c.absorb_keeps p d).1
@[simp] theorem Ctx.absorb_rate (d : List Byte) : (c.absorb p d).rate = c.rate := (c.absorb_keeps p d).2.1
@[simp] theorem Ctx.absorb_ds (d : List Byte) : (c.absorb p d).ds = c.ds := (c.absorb_keeps p d).2.2.1
@[simp] theorem Ctx.absorb_dir (d : List Byte) : (c.absorb p d).dir = c.dir := (c.absorb_keeps p d).2.2.2.1
@[simp] theorem Ctx.absorb_ib (d : List Byte) : (c.absorb p d).ib = c.ib := (c.absorb_keeps p d).2.2.2.2

/-! ### Finalize and Squeeze -/

@[simp] theorem Ctx.finalize_valid : (c.finalize p).valid = c.valid := rfl
@[simp] theorem Ctx.finalize_rate : (c.finalize p).rate = c.rate := rfl
@[simp] theorem Ctx.finalize_ds : (c.finalize p).ds = c.ds := rfl
@[simp] theorem Ctx.finalize_ib : (c.finalize p).ib = c.ib := rfl
@[simp] theorem Ctx.finalize_dir : (c.finalize p).dir = .squeezing := rfl
@[simp] theorem Ctx.finalize_cursor : (c.finalize p).cursor = 0 := rfl

/-- What the lazy permutation leaves alone (40_sponge.md R70). -/
theorem Ctx.turnBlock_keeps :
    (c.turnBlock p).valid = c.valid ∧ (c.turnBlock p).rate = c.rate ∧ (c.turnBlock p).ds = c.ds ∧
    (c.turnBlock p).dir = c.dir ∧ (c.turnBlock p).ib = c.ib := by
  simp only [Ctx.turnBlock]
  split <;> simp

/-- The squeeze loop emits as many bytes as it is asked for (40_sponge.md R70). -/
@[simp] theorem Ctx.squeezeBytes_length (n : Nat) : (Ctx.squeezeBytes p n c).1.length = n := by
  induction n generalizing c with
  | zero => rfl
  | succ n ih => simp [Ctx.squeezeBytes, ih]

/-- What the squeeze loop leaves alone: everything but LANES and CURSOR (40_sponge.md R70). -/
theorem Ctx.squeezeBytes_keeps (n : Nat) :
    (Ctx.squeezeBytes p n c).2.valid = c.valid ∧ (Ctx.squeezeBytes p n c).2.rate = c.rate ∧
    (Ctx.squeezeBytes p n c).2.ds = c.ds ∧ (Ctx.squeezeBytes p n c).2.dir = c.dir ∧
    (Ctx.squeezeBytes p n c).2.ib = c.ib := by
  induction n generalizing c with
  | zero => simp [Ctx.squeezeBytes]
  | succ n ih =>
    obtain ⟨h1, h2, h3, h4, h5⟩ := ih { c.turnBlock p with cursor := (c.turnBlock p).cursor + 1 }
    obtain ⟨g1, g2, g3, g4, g5⟩ := c.turnBlock_keeps p
    simp only [Ctx.squeezeBytes]
    exact ⟨h1.trans g1, h2.trans g2, h3.trans g3, h4.trans g4, h5.trans g5⟩

@[simp] theorem Ctx.squeeze_length (n : Nat) : (c.squeeze p n).1.length = n := by
  simp only [Ctx.squeeze]
  split <;> simp

/-- What Squeeze leaves alone, and that it turns the context to squeezing (40_sponge.md R70). -/
theorem Ctx.squeeze_keeps (n : Nat) :
    (c.squeeze p n).2.valid = c.valid ∧ (c.squeeze p n).2.rate = c.rate ∧ (c.squeeze p n).2.ds = c.ds ∧
    (c.squeeze p n).2.dir = .squeezing ∧ (c.squeeze p n).2.ib = c.ib := by
  rcases h : c.dir with _ | _
  · simpa [Ctx.squeeze, h] using Ctx.squeezeBytes_keeps p (c.finalize p) n
  · simpa [Ctx.squeeze, h] using Ctx.squeezeBytes_keeps p c n

/-! ### What is never empty -/

theorem leftEncode_ne_nil (v : Nat) : leftEncode v ≠ [] := List.cons_ne_nil _ _

theorem bytepad_ne_nil (extra : Bool) (x : List Byte) (w : Nat) : bytepad extra x w ≠ [] := by
  simp only [bytepad]
  split_ifs <;> simp [leftEncode]

/-! ### Clone, reset, construction -/

/-- A clone equals its source (40_sponge.md R72). -/
@[simp] theorem Ctx.clone_eq : c.clone = c := rfl

@[simp] theorem Ctx.zeroize_eq : c.zeroize = Ctx.free := rfl

/-- What ResetCtx leaves alone, and that it turns the context to absorbing (40_sponge.md R73). -/
theorem Ctx.resetCtx_keeps (extra : Bool) :
    (c.resetCtx p extra).valid = c.valid ∧ (c.resetCtx p extra).rate = c.rate ∧ (c.resetCtx p extra).ds = c.ds ∧
    (c.resetCtx p extra).dir = .absorbing ∧ (c.resetCtx p extra).ib = c.ib := by
  simp only [Ctx.resetCtx]
  split <;> simp

/-- A plain context is rebuilt without a prefix (40_sponge.md R73). -/
theorem Ctx.resetCtx_plain (extra : Bool) (h : c.ib = []) :
    c.resetCtx p extra = { c with lanes := zeroLanes, cursor := 0, dir := .absorbing } := by
  simp [Ctx.resetCtx, h]

end Sys2Proof.Machine
end

