-- ==== Sys2Proof/Laws/Drbg.lean ====
section
/-! SUPPORT. The checked absorbs of the DRBG on an absorbing context, and the sizes of Generate. -/

namespace Sys2Proof.Machine

variable {p : PermChoice} {c : Ctx}

/-- On an absorbing context CheckedAbsorb absorbs (44_drbg_helpers.md R119). -/
theorem checkedAbsorb_absorbing (h : c.dir = .absorbing) (d : List Byte) :
    checkedAbsorb p c d = some (c.absorb p d) := by
  simp [checkedAbsorb, h]

/-- On a squeezing context CheckedAbsorb fails (44_drbg_helpers.md R119). -/
theorem checkedAbsorb_squeezing (h : c.dir = .squeezing) (d : List Byte) : checkedAbsorb p c d = none := by
  simp [checkedAbsorb, h]

/-- An empty input is a no-op (44_drbg_helpers.md R120). -/
@[simp] theorem prePaddedAbsorb_nil (nw : Reg) : prePaddedAbsorb p c nw [] = some (c, nw) := rfl

/-- On an absorbing context a non-empty pre-padded absorb absorbs the offset zeros with the data, then zeros to the boundary,
and adds 1 to DNW (44_drbg_helpers.md R120). -/
theorem prePaddedAbsorb_absorbing (h : c.dir = .absorbing) (nw : Reg) {d : List Byte} (hd : d ≠ []) :
    prePaddedAbsorb p c nw d =
      some (if (c.absorb p (zeros (deriveOffset d nw).toNat ++ d)).cursor = 0 then
              c.absorb p (zeros (deriveOffset d nw).toNat ++ d)
            else
              (c.absorb p (zeros (deriveOffset d nw).toNat ++ d)).absorb p
                (zeros (c.rate.toNat - (c.absorb p (zeros (deriveOffset d nw).toNat ++ d)).cursor.toNat)),
            nw + 1) := by
  simp only [prePaddedAbsorb, if_neg hd, checkedAbsorb_absorbing h, padToBoundary]
  split
  · rename_i h0; split at h0 <;> simp_all [checkedAbsorb]
  · rename_i c2 h0; split at h0 <;> simp_all [checkedAbsorb]

/-- On an absorbing context the replay of zero blocks is one plain absorb (43_drbg.md R107). -/
theorem absorbZeroBlocks_absorbing (h : c.dir = .absorbing) (r k : Nat) :
    absorbZeroBlocks p r k c = some (c.absorb p (List.replicate k (zeros r)).flatten) := by
  induction k generalizing c with
  | zero => simp [absorbZeroBlocks]
  | succ k ih =>
    simp only [absorbZeroBlocks, checkedAbsorb_absorbing h]
    rw [ih (by simpa using h)]
    simp [List.replicate_succ, Ctx.absorb_append]

/-- On an absorbing fork step 6 of Generate is one plain absorb (43_drbg.md R107). -/
theorem replayFork_absorbing (h : c.dir = .absorbing) (r k : Nat) (ds : Byte) :
    replayFork p r k ds c = some (c.absorb p (replayPad r ds ++ (List.replicate k (zeros r)).flatten)) := by
  simp only [replayFork, checkedAbsorb_absorbing h]
  rw [absorbZeroBlocks_absorbing (by simpa using h)]
  simp [Ctx.absorb_append]

@[simp] theorem zeros_length (n : Nat) : (zeros n).length = n := by simp [zeros]

@[simp] theorem replayPad_length (r : Nat) (ds : Byte) : (replayPad r ds).length = r := by simp [replayPad]

/-- Remix keeps the length of its window (44_drbg_helpers.md R123). -/
@[simp] theorem remix_length (w : List Byte) : (remix w).length = w.length := by
  have step : ∀ (l : List ((Nat × Nat) × Nat)) (b : List Byte), (l.foldl remixStep b).length = b.length := by
    intro l
    induction l with
    | nil => simp
    | cons x l ih => intro b; simp [ih, remixStep]
  simp only [remix, remixCore, step]
  split <;> simp [perturb]

end Sys2Proof.Machine
end

