-- ==== Sys2Proof/Laws/State.lean ====
section
/-! SUPPORT. One lemma per field per update of State, true by rfl, so that no later proof unfolds a record update. -/

namespace Sys2Proof.Machine

variable (s : State)

/-! ### complete -/

@[simp] theorem State.complete_params (c : Completion) : (s.complete c).params = s.params := rfl
@[simp] theorem State.complete_cmd (c : Completion) : (s.complete c).cmd = s.cmd := rfl
@[simp] theorem State.complete_arg0 (c : Completion) : (s.complete c).arg0 = s.arg0 := rfl
@[simp] theorem State.complete_arg1 (c : Completion) : (s.complete c).arg1 = s.arg1 := rfl
@[simp] theorem State.complete_arg2 (c : Completion) : (s.complete c).arg2 = s.arg2 := rfl
@[simp] theorem State.complete_a0 (c : Completion) : (s.complete c).a0 = s.a0 := rfl
@[simp] theorem State.complete_a1 (c : Completion) : (s.complete c).a1 = s.a1 := rfl
@[simp] theorem State.complete_a2 (c : Completion) : (s.complete c).a2 = s.a2 := rfl
@[simp] theorem State.complete_phase (c : Completion) : (s.complete c).phase = .idle := rfl
@[simp] theorem State.complete_err (c : Completion) : (s.complete c).err = c.err := rfl
@[simp] theorem State.complete_lastOp (c : Completion) : (s.complete c).lastOp = c.lastOp := rfl
@[simp] theorem State.complete_result (c : Completion) : (s.complete c).result = c.result := rfl
@[simp] theorem State.complete_slots (c : Completion) : (s.complete c).slots = s.slots := rfl
@[simp] theorem State.complete_drbg (c : Completion) : (s.complete c).drbg = s.drbg := rfl
@[simp] theorem State.complete_rst (c : Completion) : (s.complete c).rst = s.rst := rfl
@[simp] theorem State.complete_dinOffer (c : Completion) : (s.complete c).dinOffer = s.dinOffer := rfl
@[simp] theorem State.complete_doutReady (c : Completion) : (s.complete c).doutReady = s.doutReady := rfl
@[simp] theorem State.complete_doutTaken (c : Completion) : (s.complete c).doutTaken = s.doutTaken := rfl
@[simp] theorem State.complete_turns (c : Completion) : (s.complete c).turns = s.turns := rfl

/-! ### setSlot -/

@[simp] theorem State.setSlot_params (i : Nat) (c : Ctx) : (s.setSlot i c).params = s.params := rfl
@[simp] theorem State.setSlot_cmd (i : Nat) (c : Ctx) : (s.setSlot i c).cmd = s.cmd := rfl
@[simp] theorem State.setSlot_arg0 (i : Nat) (c : Ctx) : (s.setSlot i c).arg0 = s.arg0 := rfl
@[simp] theorem State.setSlot_arg1 (i : Nat) (c : Ctx) : (s.setSlot i c).arg1 = s.arg1 := rfl
@[simp] theorem State.setSlot_arg2 (i : Nat) (c : Ctx) : (s.setSlot i c).arg2 = s.arg2 := rfl
@[simp] theorem State.setSlot_a0 (i : Nat) (c : Ctx) : (s.setSlot i c).a0 = s.a0 := rfl
@[simp] theorem State.setSlot_a1 (i : Nat) (c : Ctx) : (s.setSlot i c).a1 = s.a1 := rfl
@[simp] theorem State.setSlot_a2 (i : Nat) (c : Ctx) : (s.setSlot i c).a2 = s.a2 := rfl
@[simp] theorem State.setSlot_phase (i : Nat) (c : Ctx) : (s.setSlot i c).phase = s.phase := rfl
@[simp] theorem State.setSlot_err (i : Nat) (c : Ctx) : (s.setSlot i c).err = s.err := rfl
@[simp] theorem State.setSlot_lastOp (i : Nat) (c : Ctx) : (s.setSlot i c).lastOp = s.lastOp := rfl
@[simp] theorem State.setSlot_result (i : Nat) (c : Ctx) : (s.setSlot i c).result = s.result := rfl
@[simp] theorem State.setSlot_slots (i : Nat) (c : Ctx) : (s.setSlot i c).slots = s.slots.set i c := rfl
@[simp] theorem State.setSlot_drbg (i : Nat) (c : Ctx) : (s.setSlot i c).drbg = s.drbg := rfl
@[simp] theorem State.setSlot_rst (i : Nat) (c : Ctx) : (s.setSlot i c).rst = s.rst := rfl
@[simp] theorem State.setSlot_dinOffer (i : Nat) (c : Ctx) : (s.setSlot i c).dinOffer = s.dinOffer := rfl
@[simp] theorem State.setSlot_doutReady (i : Nat) (c : Ctx) : (s.setSlot i c).doutReady = s.doutReady := rfl
@[simp] theorem State.setSlot_doutTaken (i : Nat) (c : Ctx) : (s.setSlot i c).doutTaken = s.doutTaken := rfl
@[simp] theorem State.setSlot_turns (i : Nat) (c : Ctx) : (s.setSlot i c).turns = s.turns := rfl

/-! ### destroyDrbg -/

@[simp] theorem State.destroyDrbg_params : s.destroyDrbg.params = s.params := rfl
@[simp] theorem State.destroyDrbg_cmd : s.destroyDrbg.cmd = s.cmd := rfl
@[simp] theorem State.destroyDrbg_arg0 : s.destroyDrbg.arg0 = s.arg0 := rfl
@[simp] theorem State.destroyDrbg_arg1 : s.destroyDrbg.arg1 = s.arg1 := rfl
@[simp] theorem State.destroyDrbg_arg2 : s.destroyDrbg.arg2 = s.arg2 := rfl
@[simp] theorem State.destroyDrbg_a0 : s.destroyDrbg.a0 = s.a0 := rfl
@[simp] theorem State.destroyDrbg_a1 : s.destroyDrbg.a1 = s.a1 := rfl
@[simp] theorem State.destroyDrbg_a2 : s.destroyDrbg.a2 = s.a2 := rfl
@[simp] theorem State.destroyDrbg_phase : s.destroyDrbg.phase = s.phase := rfl
@[simp] theorem State.destroyDrbg_err : s.destroyDrbg.err = s.err := rfl
@[simp] theorem State.destroyDrbg_lastOp : s.destroyDrbg.lastOp = s.lastOp := rfl
@[simp] theorem State.destroyDrbg_result : s.destroyDrbg.result = s.result := rfl
@[simp] theorem State.destroyDrbg_slots : s.destroyDrbg.slots = s.slots := rfl
@[simp] theorem State.destroyDrbg_drbg : s.destroyDrbg.drbg = Drbg.destroyed := rfl
@[simp] theorem State.destroyDrbg_rst : s.destroyDrbg.rst = s.rst := rfl
@[simp] theorem State.destroyDrbg_dinOffer : s.destroyDrbg.dinOffer = s.dinOffer := rfl
@[simp] theorem State.destroyDrbg_doutReady : s.destroyDrbg.doutReady = s.doutReady := rfl
@[simp] theorem State.destroyDrbg_doutTaken : s.destroyDrbg.doutTaken = s.doutTaken := rfl
@[simp] theorem State.destroyDrbg_turns : s.destroyDrbg.turns = s.turns := rfl

/-! ### issue -/

@[simp] theorem State.issue_params (w : CmdWord) : (s.issue w).params = s.params := rfl
@[simp] theorem State.issue_cmd (w : CmdWord) : (s.issue w).cmd = w := rfl
@[simp] theorem State.issue_arg0 (w : CmdWord) : (s.issue w).arg0 = s.arg0 := rfl
@[simp] theorem State.issue_arg1 (w : CmdWord) : (s.issue w).arg1 = s.arg1 := rfl
@[simp] theorem State.issue_arg2 (w : CmdWord) : (s.issue w).arg2 = s.arg2 := rfl
@[simp] theorem State.issue_a0 (w : CmdWord) : (s.issue w).a0 = s.arg0 := rfl
@[simp] theorem State.issue_a1 (w : CmdWord) : (s.issue w).a1 = s.arg1 := rfl
@[simp] theorem State.issue_a2 (w : CmdWord) : (s.issue w).a2 = s.arg2 := rfl
@[simp] theorem State.issue_phase (w : CmdWord) : (s.issue w).phase = .exec [] := rfl
@[simp] theorem State.issue_err (w : CmdWord) : (s.issue w).err = s.err := rfl
@[simp] theorem State.issue_lastOp (w : CmdWord) : (s.issue w).lastOp = s.lastOp := rfl
@[simp] theorem State.issue_result (w : CmdWord) : (s.issue w).result = s.result := rfl
@[simp] theorem State.issue_slots (w : CmdWord) : (s.issue w).slots = s.slots := rfl
@[simp] theorem State.issue_drbg (w : CmdWord) : (s.issue w).drbg = s.drbg := rfl
@[simp] theorem State.issue_rst (w : CmdWord) : (s.issue w).rst = s.rst := rfl
@[simp] theorem State.issue_dinOffer (w : CmdWord) : (s.issue w).dinOffer = s.dinOffer := rfl
@[simp] theorem State.issue_doutReady (w : CmdWord) : (s.issue w).doutReady = s.doutReady := rfl
@[simp] theorem State.issue_doutTaken (w : CmdWord) : (s.issue w).doutTaken = s.doutTaken := rfl
@[simp] theorem State.issue_turns (w : CmdWord) : (s.issue w).turns = s.turns := rfl

/-! ### rebuildLive -/

@[simp] theorem State.rebuildLive_params : s.rebuildLive.params = s.params := rfl
@[simp] theorem State.rebuildLive_cmd : s.rebuildLive.cmd = s.cmd := rfl
@[simp] theorem State.rebuildLive_arg0 : s.rebuildLive.arg0 = s.arg0 := rfl
@[simp] theorem State.rebuildLive_arg1 : s.rebuildLive.arg1 = s.arg1 := rfl
@[simp] theorem State.rebuildLive_arg2 : s.rebuildLive.arg2 = s.arg2 := rfl
@[simp] theorem State.rebuildLive_a0 : s.rebuildLive.a0 = s.a0 := rfl
@[simp] theorem State.rebuildLive_a1 : s.rebuildLive.a1 = s.a1 := rfl
@[simp] theorem State.rebuildLive_a2 : s.rebuildLive.a2 = s.a2 := rfl
@[simp] theorem State.rebuildLive_phase : s.rebuildLive.phase = s.phase := rfl
@[simp] theorem State.rebuildLive_err : s.rebuildLive.err = s.err := rfl
@[simp] theorem State.rebuildLive_lastOp : s.rebuildLive.lastOp = s.lastOp := rfl
@[simp] theorem State.rebuildLive_result : s.rebuildLive.result = s.result := rfl
@[simp] theorem State.rebuildLive_slots : s.rebuildLive.slots = s.slots := rfl
@[simp] theorem State.rebuildLive_drbg : s.rebuildLive.drbg = { s.drbg with dlive := s.drbg.dlive.resetCtx s.params.perm s.params.bytepadExtraAligned } := rfl
@[simp] theorem State.rebuildLive_rst : s.rebuildLive.rst = s.rst := rfl
@[simp] theorem State.rebuildLive_dinOffer : s.rebuildLive.dinOffer = s.dinOffer := rfl
@[simp] theorem State.rebuildLive_doutReady : s.rebuildLive.doutReady = s.doutReady := rfl
@[simp] theorem State.rebuildLive_doutTaken : s.rebuildLive.doutTaken = s.doutTaken := rfl
@[simp] theorem State.rebuildLive_turns : s.rebuildLive.turns = s.turns := rfl

/-! ### completed -/

@[simp] theorem State.completed_params (op : Byte) (e : Status) (v : Reg) : (s.completed op e v).params = s.params := rfl
@[simp] theorem State.completed_cmd (op : Byte) (e : Status) (v : Reg) : (s.completed op e v).cmd = s.cmd := rfl
@[simp] theorem State.completed_arg0 (op : Byte) (e : Status) (v : Reg) : (s.completed op e v).arg0 = s.arg0 := rfl
@[simp] theorem State.completed_arg1 (op : Byte) (e : Status) (v : Reg) : (s.completed op e v).arg1 = s.arg1 := rfl
@[simp] theorem State.completed_arg2 (op : Byte) (e : Status) (v : Reg) : (s.completed op e v).arg2 = s.arg2 := rfl
@[simp] theorem State.completed_a0 (op : Byte) (e : Status) (v : Reg) : (s.completed op e v).a0 = s.a0 := rfl
@[simp] theorem State.completed_a1 (op : Byte) (e : Status) (v : Reg) : (s.completed op e v).a1 = s.a1 := rfl
@[simp] theorem State.completed_a2 (op : Byte) (e : Status) (v : Reg) : (s.completed op e v).a2 = s.a2 := rfl
@[simp] theorem State.completed_phase (op : Byte) (e : Status) (v : Reg) : (s.completed op e v).phase = .idle := rfl
@[simp] theorem State.completed_err (op : Byte) (e : Status) (v : Reg) : (s.completed op e v).err = e := rfl
@[simp] theorem State.completed_lastOp (op : Byte) (e : Status) (v : Reg) : (s.completed op e v).lastOp = op := rfl
@[simp] theorem State.completed_result (op : Byte) (e : Status) (v : Reg) : (s.completed op e v).result = v := rfl
@[simp] theorem State.completed_slots (op : Byte) (e : Status) (v : Reg) : (s.completed op e v).slots = s.slots := rfl
@[simp] theorem State.completed_drbg (op : Byte) (e : Status) (v : Reg) : (s.completed op e v).drbg = s.drbg := rfl
@[simp] theorem State.completed_rst (op : Byte) (e : Status) (v : Reg) : (s.completed op e v).rst = s.rst := rfl
@[simp] theorem State.completed_dinOffer (op : Byte) (e : Status) (v : Reg) : (s.completed op e v).dinOffer = s.dinOffer := rfl
@[simp] theorem State.completed_doutReady (op : Byte) (e : Status) (v : Reg) : (s.completed op e v).doutReady = s.doutReady := rfl
@[simp] theorem State.completed_doutTaken (op : Byte) (e : Status) (v : Reg) : (s.completed op e v).doutTaken = s.doutTaken := rfl
@[simp] theorem State.completed_turns (op : Byte) (e : Status) (v : Reg) : (s.completed op e v).turns = s.turns := rfl

/-! ### The other completions are `complete` -/

@[simp] theorem State.raise_eq (op : Byte) (e : Status) :
    s.raise op e = s.complete { err := e, lastOp := op, result := 0 } := rfl

@[simp] theorem State.finish_eq (op : Byte) :
    s.finish op = s.complete { err := .ok, lastOp := op, result := 0 } := rfl

@[simp] theorem State.answer_eq (op : Byte) (v : Reg) :
    s.answer op v = s.complete { err := .ok, lastOp := op, result := v } := rfl

/-- The model's completion is the specification's. -/
theorem State.complete_eq_completed (c : Completion) : s.complete c = s.completed c.lastOp c.err c.result := rfl

@[simp] theorem State.slot_eq (i : Nat) : s.slot i = s.slots[i]? := rfl

@[simp] theorem State.nctx_eq : s.nctx = s.slots.length := rfl

end Sys2Proof.Machine
end

