-- ==== Sys2Proof/Laws/Ops.lean ====
section
/-! SUPPORT. For each operation of a command's life cycle, what it answers: the lemmas later proofs cite instead of unfolding
it. -/

namespace Sys2Proof.Machine

/-! ### DinRead -/

/-- With the declared bytes taken, DinRead goes on with them. -/
theorem State.dinRead_enough {s : State} {n : Nat} {k : List Byte → State → State} (h : n ≤ s.dinTaken.length) :
    s.dinRead n k = k (s.dinTaken.take n) s := by
  simp only [State.dinRead, if_pos h]

/-- With fewer bytes taken, DinRead waits for the missing ones. -/
theorem State.dinRead_short {s : State} {n : Nat} {k : List Byte → State → State} (h : s.dinTaken.length < n) :
    s.dinRead n k = s.awaiting n := by
  simp only [State.dinRead, if_neg (Nat.not_le.mpr h), State.awaiting]

/-- With exactly the declared bytes taken, DinRead goes on with all of them. -/
theorem State.dinRead_taken {s : State} {n : Nat} {k : List Byte → State → State} (h : s.dinTaken.length = n) :
    s.dinRead n k = k s.dinTaken s := by
  rw [State.dinRead_enough h.ge, List.take_of_length_le h.le]

/-- Everything DinRead can do. -/
theorem State.dinRead_cases (s : State) (n : Nat) (k : List Byte → State → State) :
    (n ≤ s.dinTaken.length ∧ s.dinRead n k = k (s.dinTaken.take n) s) ∨
    (s.dinTaken.length < n ∧ s.dinRead n k = s.awaiting n) :=
  (Nat.lt_or_ge s.dinTaken.length n).elim (fun h => .inr ⟨h, State.dinRead_short h⟩)
    fun h => .inl ⟨h, State.dinRead_enough h⟩

/-! ### DoutWrite -/

/-- With no byte to hand over the command completes. -/
@[simp] theorem State.doutWrite_nil (s : State) (done : Completion) : s.doutWrite [] done = s.complete done := rfl

/-- With a byte to hand over DoutWrite enters DATA_OUT. -/
theorem State.doutWrite_offers {s : State} {b : List Byte} {done : Completion} (h : b ≠ []) :
    s.doutWrite b done = { s with phase := .dataOut b done } := by
  simp only [State.doutWrite, if_neg h]

theorem State.emit_offers {s : State} {op : Byte} {b : List Byte} (h : b ≠ []) : s.emit op b = s.offering op b :=
  State.doutWrite_offers h

/-- DoutWrite changes PHASE and, where it completes, STS.ERR, STS.LASTOP and RESULT, and nothing else. -/
theorem State.doutWrite_frame (s : State) (b : List Byte) (done : Completion) :
    s.doutWrite b done =
      { s with phase := (s.doutWrite b done).phase, err := (s.doutWrite b done).err,
               lastOp := (s.doutWrite b done).lastOp, result := (s.doutWrite b done).result } := by
  simp only [State.doutWrite, State.complete]
  split <;> rfl

/-! ### The streams -/

/-- Everything the DIN handshake can do: the last missing bytes arrive, or all there are and more are awaited. -/
theorem State.dinTransfer_cases (s : State) (taken : List Byte) (need : Nat) :
    (∃ d rest, s.dinOffer = d ++ rest ∧ d.length = need ∧
      s.dinTransfer taken need = { s with phase := .exec (taken ++ d), dinOffer := rest }) ∨
    (s.dinOffer.length < need ∧
      s.dinTransfer taken need =
        { s with phase := .dataIn (taken ++ s.dinOffer) (need - s.dinOffer.length), dinOffer := [] }) := by
  rcases Nat.lt_or_ge s.dinOffer.length need with h | h
  · exact .inr ⟨h, by simp only [State.dinTransfer, if_neg (Nat.not_le.mpr h)]⟩
  · exact .inl ⟨_, _, (List.take_append_drop need _).symm, List.length_take_of_le h, by
      simp only [State.dinTransfer, if_pos h]⟩

/-- Everything the DOUT handshake can do: the host takes the rest and the command completes, or takes a part and is offered
what is left. -/
theorem State.doutTransfer_cases (s : State) (rest : List Byte) (done : Completion) :
    (rest.length ≤ s.doutReady ∧ s.doutTransfer rest done = (s.taking rest).complete done) ∨
    (s.doutReady < rest.length ∧
      s.doutTransfer rest done =
        { s with phase := .dataOut (rest.drop s.doutReady) done, doutTaken := s.doutTaken ++ rest.take s.doutReady,
                 doutReady := 0 }) := by
  rcases Nat.lt_or_ge s.doutReady rest.length with h | h
  · exact .inr ⟨h, by simp only [State.doutTransfer, if_neg (Nat.not_le.mpr h)]⟩
  · exact .inl ⟨h, by simp only [State.doutTransfer, if_pos h, State.taking]⟩

/-! ### The shared checks -/

theorem State.withSlot_none {s : State} {op : Byte} {i : Nat} {k : Ctx → State} (h : s.slots.length ≤ i) :
    s.withSlot op i k = s.completed op .badSlot 0 := by
  simp [State.withSlot, List.getElem?_eq_none h, State.complete_eq_completed]

theorem State.withSlot_some {s : State} {op : Byte} {i : Nat} {k : Ctx → State} {c : Ctx}
    (h : s.slots[i]? = some c) : s.withSlot op i k = k c := by
  simp [State.withSlot, h]

theorem State.withBuiltSlot_some {s : State} {op : Byte} {i : Nat} {k : Ctx → State} {c : Ctx}
    (h : s.slots[i]? = some c) (hv : c.valid = true) : s.withBuiltSlot op i k = k c := by
  simp [State.withBuiltSlot, State.withSlot_some h, hv]

theorem State.withBuiltSlot_free {s : State} {op : Byte} {i : Nat} {k : Ctx → State} {c : Ctx}
    (h : s.slots[i]? = some c) (hv : c.valid = false) :
    s.withBuiltSlot op i k = s.completed op .slotEmpty 0 := by
  simp [State.withBuiltSlot, State.withSlot_some h, hv, State.complete_eq_completed]

theorem State.withBuiltSlot_none {s : State} {op : Byte} {i : Nat} {k : Ctx → State} (h : s.slots.length ≤ i) :
    s.withBuiltSlot op i k = s.completed op .badSlot 0 := State.withSlot_none h

theorem State.withActive_active {s : State} {op : Byte} {k : State} (h : s.drbg.dstate = .active) :
    s.withActive op k = k := by
  simp [State.withActive, h]

theorem State.withActive_empty {s : State} {op : Byte} {k : State} (h : s.drbg.dstate = .empty) :
    s.withActive op k = s.completed op .noInstance 0 := by
  simp [State.withActive, h, State.complete_eq_completed]

theorem State.withActive_destroyed {s : State} {op : Byte} {k : State} (h : s.drbg.dstate = .destroyed) :
    s.withActive op k = s.completed op .destroyed 0 := by
  simp [State.withActive, h, State.complete_eq_completed]

/-! ### Whose move it is -/

/-- Everything a step can be: a host action, or a move of the engine. -/
theorem step_cases (s : State) :
    (∃ a ts, s.turns = .host a :: ts ∧ step s = .next (State.hostMove { s with turns := ts } a)) ∨
    ((s.turns = [] ∨ ∃ ts, s.turns = .engine :: ts) ∧ step s = State.engineMove { s with turns := s.turns.tail }) := by
  rcases s with ⟨_, _, _, _, _, _, _, _, _, _, _, _, _, _, _, _, _, _, _ | ⟨_ | a, ts⟩⟩
  · exact .inr ⟨.inl rfl, rfl⟩
  · exact .inr ⟨.inr ⟨_, rfl⟩, rfl⟩
  · exact .inl ⟨a, ts, rfl, rfl⟩

/-- Everything a move of the engine can be. -/
theorem State.engineMove_cases (s : State) :
    ((s.rst = true ∨ s.phase = .idle) ∧ s.engineMove = .next s) ∨
    (s.rst = false ∧ (∃ taken, s.phase = .exec taken) ∧ s.engineMove = s.runCommand) ∨
    (s.rst = false ∧ ∃ taken need, s.phase = .dataIn taken need ∧ s.engineMove = .next (s.dinTransfer taken need)) ∨
    (s.rst = false ∧ ∃ rest done, s.phase = .dataOut rest done ∧ s.engineMove = .next (s.doutTransfer rest done)) := by
  rcases hr : s.rst with _ | _ <;> rcases hp : s.phase with _ | taken | ⟨taken, need⟩ | ⟨rest, done⟩ <;>
    simp [State.engineMove, hr, hp]

end Sys2Proof.Machine
end

