-- ==== Sys2Proof/Laws/Commands.lean ====
section
/-! SUPPORT. Everything a command can do, said once for all twenty: it completes at once with an error, it waits for DIN bytes,
or it takes its declared DIN bytes and writes slots, DRBG registers, output and completion. -/

namespace Sys2Proof.Machine

/-! ### The operand checks -/

/-- A level of 128 or 256 selects its rate (42_cshake.md R93). -/
theorem rateOfLevel_some {a : Reg} {r : Byte} (h : (a = 128 ∧ r = 168) ∨ (a = 256 ∧ r = 136)) :
    rateOfLevel a = some r := by
  rcases h with ⟨rfl, rfl⟩ | ⟨rfl, rfl⟩ <;> rfl

theorem rateOfLevel_none {a : Reg} (h1 : a ≠ 128) (h2 : a ≠ 256) : rateOfLevel a = none := by
  simp only [rateOfLevel, if_neg h1, if_neg h2]

/-- A strength of 128 or 256 selects its rate and seed length (43_drbg.md R101). -/
theorem profileOfStrength_some {a : Reg} {r sl : Byte}
    (h : (a = 128 ∧ r = 168 ∧ sl = 32) ∨ (a = 256 ∧ r = 136 ∧ sl = 64)) :
    profileOfStrength a = some (r, sl) := by
  rcases h with ⟨rfl, rfl, rfl⟩ | ⟨rfl, rfl, rfl⟩ <;> rfl

theorem profileOfStrength_none {a : Reg} (h1 : a ≠ 128) (h2 : a ≠ 256) : profileOfStrength a = none := by
  simp only [profileOfStrength, if_neg h1, if_neg h2]

/-- The seed length check as a proposition (43_drbg.md R102). -/
theorem seedLenOk_iff {len : Nat} {sl : Byte} : seedLenOk len sl = true ↔ sl.toNat / 2 ≤ len ∧ len ≤ 2 ^ 32 := by
  simp [seedLenOk, Config.maxInputLength]

/-! ### What a command leaves -/

/-- How a command ends once it has its DIN bytes, when it ends well or destroys the DRBG. -/
structure Ending (i : Instr) (s : State) (slots : List Ctx) (drbg : Drbg) (b : List Byte) (done : Completion) : Prop where
  opcode : done.lastOp = i.opcode
  /-- It is OK, or the one failure of the DRBG's checked absorbs. -/
  err : done.err = .ok ∨
    done.err = .internalAbsorb ∧ done.result = 0 ∧ drbg = Drbg.destroyed ∧ slots = s.slots ∧ 0x20 ≤ i.opcode.toNat
  /-- A command writes its slot SA and no other. -/
  slots : slots = s.slots ∨ ∃ c, slots = s.slots.set i.slotA c ∧ i.opcode.toNat < 0x10
  /-- Only the DRBG commands write DRBG registers. -/
  drbg : drbg = s.drbg ∨ 0x20 ≤ i.opcode.toNat ∧ i.opcode.toNat < 0x30

/-- The state a command has written, before its output. -/
def State.wrote (s : State) (slots : List Ctx) (drbg : Drbg) : State := { s with slots := slots, drbg := drbg }

/-- Everything a command can do. -/
inductive Does (i : Instr) (s : State) : Host.Outcome State Fault Refusal → Prop where
  /-- It completes with an error. -/
  | rejects (e : Status) (ne : e ≠ .ok) (ni : e ≠ .internalAbsorb) (nr : i = .drbgReset → e ≠ .validation) :
      Does i s (.next (s.completed i.opcode e 0))
  /-- DRBG_RESET with a bad seed length: the live context stays rebuilt. -/
  | rebuilds (h : i = .drbgReset) (ha : s.drbg.dstate = .active) :
      Does i s (.next (s.rebuildLive.completed i.opcode .validation 0))
  /-- It waits for DIN bytes. -/
  | waits (h : s.dinTaken.length < declaredDin i s) (hr : i ≠ .drbgReset) :
      Does i s (.next (s.awaiting (declaredDin i s)))
  /-- DRBG_RESET waits for DIN bytes, the live context rebuilt. -/
  | waitsRebuilt (h : s.dinTaken.length < declaredDin i s) (hr : i = .drbgReset)
      (ha : s.drbg.dstate = .active) : Does i s (.next (s.rebuildLive.awaiting (declaredDin i s)))
  /-- It has its declared bytes and ends, or offers its output. -/
  | ends (slots : List Ctx) (drbg : Drbg) (b : List Byte) (done : Completion)
      (hl : declaredDin i s ≤ s.dinTaken.length) (he : Ending i s slots drbg b done) :
      Does i s (.next ((s.wrote slots drbg).doutWrite b done))

/-- A command that takes no DIN byte. -/
theorem Does.writes {i : Instr} {s : State} (h0 : declaredDin i s = 0) (slots : List Ctx) (drbg : Drbg)
    (b : List Byte) (done : Completion) (he : Ending i s slots drbg b done) :
    Does i s (.next (State.doutWrite { s with slots := slots, drbg := drbg } b done)) :=
  .ends slots drbg b done (by rw [h0]; exact Nat.zero_le _) he

/-- A command that takes no DIN byte and emits none. -/
theorem Does.plain {i : Instr} {s t : State} (h0 : declaredDin i s = 0) (slots : List Ctx) (drbg : Drbg) (v : Reg)
    (he : Ending i s slots drbg [] { err := .ok, lastOp := i.opcode, result := v })
    (ht : t = State.completed { s with slots := slots, drbg := drbg } i.opcode .ok v) : Does i s (.next t) :=
  ht ▸ Does.writes h0 slots drbg [] _ he

/-- DinRead in a command: it waits, or goes on with the bytes it declares. -/
theorem Does.read {i : Instr} {s : State} {n : Nat} {k : List Byte → State → State} (hn : declaredDin i s = n)
    (hr : i ≠ .drbgReset)
    (h : ∀ d, ∃ slots drbg b done, Ending i s slots drbg b done ∧ k d s = (s.wrote slots drbg).doutWrite b done) :
    Does i s (.next (s.dinRead n k)) := by
  subst hn
  rcases s.dinRead_cases (declaredDin i s) k with ⟨hl, e⟩ | ⟨hl, e⟩ <;> rw [e]
  · obtain ⟨slots, drbg, b, done, he, ek⟩ := h (s.dinTaken.take (declaredDin i s))
    rw [ek]
    exact .ends slots drbg b done hl he
  · exact .waits hl hr

theorem withSlot_does {i : Instr} {s : State} {n : Nat} {k : Ctx → State} (hr : i ≠ .drbgReset)
    (h : ∀ c, s.slots[n]? = some c → Does i s (.next (k c))) : Does i s (.next (s.withSlot i.opcode n k)) := by
  rcases hc : s.slots[n]? with _ | c
  · rw [State.withSlot_none (by simpa using hc)]
    exact .rejects .badSlot (by decide) (by decide) (fun e => absurd e hr)
  · rw [State.withSlot_some hc]; exact h c hc

theorem withBuiltSlot_does {i : Instr} {s : State} {n : Nat} {k : Ctx → State} (hr : i ≠ .drbgReset)
    (h : ∀ c, s.slots[n]? = some c → c.valid = true → Does i s (.next (k c))) :
    Does i s (.next (s.withBuiltSlot i.opcode n k)) := by
  refine withSlot_does hr fun c hc => ?_
  rcases hv : c.valid with _ | _
  · exact .rejects .slotEmpty (by decide) (by decide) (fun e => absurd e hr)
  · exact h c hc hv

theorem withActive_does {i : Instr} {s t : State} (h : s.drbg.dstate = .active → Does i s (.next t)) :
    Does i s (.next (s.withActive i.opcode t)) := by
  rcases hd : s.drbg.dstate with _ | _ | _
  · rw [State.withActive_empty hd]; exact .rejects .noInstance (by decide) (by decide) (fun _ => by decide)
  · rw [State.withActive_active hd]; exact h hd
  · rw [State.withActive_destroyed hd]; exact .rejects .destroyed (by decide) (by decide) (fun _ => by decide)

/-- A slot command that builds or rewrites its slot. -/
theorem Ending.slot {i : Instr} {s : State} (c : Ctx) (b : List Byte) (h : i.opcode.toNat < 0x10) :
    Ending i s (s.slots.set i.slotA c) s.drbg b { err := .ok, lastOp := i.opcode, result := 0 } :=
  ⟨rfl, .inl rfl, .inr ⟨c, rfl, h⟩, .inl rfl⟩

/-- A command that leaves the slots and the DRBG registers. -/
theorem Ending.query {i : Instr} {s : State} (b : List Byte) (v : Reg) :
    Ending i s s.slots s.drbg b { err := .ok, lastOp := i.opcode, result := v } :=
  ⟨rfl, .inl rfl, .inl rfl, .inl rfl⟩

/-- A DRBG command that ends well. -/
theorem Ending.engine {i : Instr} {s : State} (drbg : Drbg) (b : List Byte)
    (h : 0x20 ≤ i.opcode.toNat ∧ i.opcode.toNat < 0x30) :
    Ending i s s.slots drbg b { err := .ok, lastOp := i.opcode, result := 0 } :=
  ⟨rfl, .inl rfl, .inl rfl, .inr h⟩

/-- A DRBG command whose checked absorb fails. -/
theorem Ending.fails {i : Instr} {s : State} (b : List Byte) (h : 0x20 ≤ i.opcode.toNat ∧ i.opcode.toNat < 0x30) :
    Ending i s s.slots Drbg.destroyed b { err := .internalAbsorb, lastOp := i.opcode, result := 0 } :=
  ⟨rfl, .inr ⟨rfl, rfl, rfl, rfl, h.1⟩, .inl rfl, .inr h⟩

/-- What absorbing a seed can do. -/
theorem absorbSeed_ends {i : Instr} {s : State} (h : 0x20 ≤ i.opcode.toNat ∧ i.opcode.toNat < 0x30) (drbg : Drbg)
    (seed : List Byte) :
    ∃ drbg' b done, Ending i s s.slots drbg' b done ∧
      State.absorbSeed { s with drbg := drbg } i.opcode seed = (s.wrote s.slots drbg').doutWrite b done := by
  simp only [State.absorbSeed]
  split
  · exact ⟨_, [], _, Ending.fails [] h, rfl⟩
  · exact ⟨_, [], _, Ending.engine _ [] h, rfl⟩

/-- What steps 3 to 8 of Generate can do. -/
theorem runGenerate_ends {s : State} (add : List Byte) :
    ∃ drbg' b done, Ending .drbgGenerate s s.slots drbg' b done ∧
      s.runGenerate Instr.drbgGenerate.opcode add = (s.wrote s.slots drbg').doutWrite b done := by
  simp only [State.runGenerate]
  split
  · exact ⟨_, [], _, Ending.fails [] (by decide), rfl⟩
  · split
    · exact ⟨_, _, _, Ending.fails _ (by decide), rfl⟩
    · exact ⟨_, _, _, Ending.engine _ _ (by decide), rfl⟩

/-- Everything a command can do, for every command and every state. -/
theorem exec_does (i : Instr) (s : State) : Does i s (exec i s) := by
  cases i with
  | ctxShake sa =>
    refine withSlot_does (by simp) fun c _ => ?_
    split
    · exact .rejects .badArg (by decide) (by decide) (by simp)
    · exact .plain rfl _ _ 0 (.slot _ _ (by simp [Instr.opcode])) rfl
  | ctxCshake sa =>
    refine withSlot_does (by simp) fun c _ => ?_
    split
    · exact .rejects .badArg (by decide) (by decide) (by simp)
    · split
      · exact .rejects .badArg (by decide) (by decide) (by simp)
      · exact .read rfl (by simp) fun d => ⟨_, _, [], _, .slot _ _ (by simp [Instr.opcode]), rfl⟩
  | ctxAbsorb sa =>
    refine withBuiltSlot_does (by simp) fun c _ _ => ?_
    split
    · exact .rejects .absorbAfterSqueeze (by decide) (by decide) (by simp)
    · exact .read rfl (by simp) fun d => ⟨_, _, [], _, .slot _ _ (by simp [Instr.opcode]), rfl⟩
  | ctxSqueeze sa =>
    refine withBuiltSlot_does (by simp) fun c _ _ => ?_
    exact .writes rfl _ _ _ _ (.slot _ _ (by simp [Instr.opcode]))
  | ctxClone dst src =>
    refine withSlot_does (by simp) fun _ _ => withBuiltSlot_does (by simp) fun c _ _ => ?_
    split
    · exact .plain rfl _ _ 0 (.query _ _) rfl
    · exact .plain rfl _ _ 0 (.slot _ _ (by simp [Instr.opcode])) rfl
  | ctxReset sa =>
    exact withBuiltSlot_does (by simp) fun c _ _ => .plain rfl _ _ 0 (.slot _ _ (by simp [Instr.opcode])) rfl
  | ctxFree sa => exact withSlot_does (by simp) fun c _ => .plain rfl _ _ 0 (.slot _ _ (by simp [Instr.opcode])) rfl
  | ctxStatus sa => exact withSlot_does (by simp) fun c _ => .plain rfl _ _ _ (.query _ _) rfl
  | encLeft => exact .writes rfl _ _ _ _ (.query _ 0)
  | encBytepad =>
    simp only [exec, execEncBytepad]
    split
    · exact .rejects .badArg (by decide) (by decide) (by simp)
    · split
      · exact .rejects .badArg (by decide) (by decide) (by simp)
      · exact .read rfl (by simp) fun x => ⟨_, _, _, _, .query _ 0, rfl⟩
  | drbgNew =>
    simp only [exec, execDrbgNew]
    split
    · exact .rejects .instanceActive (by decide) (by decide) (by simp)
    · split
      · exact .rejects .unsupportedStrength (by decide) (by decide) (by simp)
      · split
        · exact .read rfl (by simp) fun seed => ⟨_, absorbSeed_ends (by decide) _ seed⟩
        · exact .rejects .validation (by decide) (by decide) (by simp)
  | drbgGenerate =>
    refine withActive_does fun _ => ?_
    split
    · exact .rejects .reseedRequired (by decide) (by decide) (by simp)
    · split
      · exact .rejects .validation (by decide) (by decide) (by simp)
      · exact .read rfl (by simp) fun add => ⟨_, runGenerate_ends add⟩
  | drbgReseed =>
    refine withActive_does fun _ => ?_
    split
    · exact .read rfl (by simp) fun seed => ⟨_, absorbSeed_ends (by decide) _ seed⟩
    · exact .rejects .validation (by decide) (by decide) (by simp)
  | drbgReset =>
    refine withActive_does fun ha => ?_
    split
    · rcases s.rebuildLive.dinRead_cases s.a0.toNat (fun seed s1 => s1.absorbSeed Instr.drbgReset.opcode seed) with
        ⟨hl, e⟩ | ⟨hl, e⟩ <;> rw [e]
      · obtain ⟨drbg', b, done, he, e2⟩ :=
          absorbSeed_ends (i := .drbgReset) (s := s) (by decide) s.rebuildLive.drbg (s.dinTaken.take s.a0.toNat)
        have := Does.ends (i := .drbgReset) (s := s) s.slots drbg' b done hl he
        rw [← e2] at this; exact this
      · exact .waitsRebuilt hl rfl ha
    · exact .rebuilds rfl ha
  | drbgDestroy =>
    simp only [exec, execDrbgDestroy]
    split
    · exact .plain rfl _ _ 0 (.engine _ _ (by decide)) rfl
    · exact .plain rfl _ _ 0 (.query _ _) rfl
    · exact .plain rfl _ _ 0 (.query _ _) rfl
  | drbgNeedReseed => exact withActive_does fun _ => .plain rfl _ _ _ (.query _ _) rfl
  | drbgReadField =>
    simp only [exec, execDrbgReadField]
    split
    · exact .rejects .badArg (by decide) (by decide) (by simp)
    · exact .plain rfl _ _ _ (.query _ _) rfl
  | drbgTestSetCounter =>
    simp only [exec, execDrbgTestSetCounter]
    split
    · exact withActive_does fun _ => .plain rfl _ _ 0 (.engine _ _ (by decide)) rfl
    · exact .rejects .testDisabled (by decide) (by decide) (by simp)
  | diagOffset =>
    simp only [exec, execDiagOffset]
    split
    · exact .rejects .badArg (by decide) (by decide) (by simp)
    · exact .read rfl (by simp) fun d => ⟨_, _, [], _, .query _ _, rfl⟩
  | diagRemix => exact .read rfl (by simp) fun w => ⟨_, _, _, _, .query _ 0, rfl⟩

end Sys2Proof.Machine
end

