-- ==== Sys2Proof/Laws/PerInstr.lean ====
section
/-! SUPPORT. One law per command, over the command as syntax: what its word holds, field by field (30_encoding.md R53, R56). -/

namespace Sys2Proof.Laws.Encoding

/-- The word of a well-formed command: its opcode in OPC, zero in RSV, its slot indices in SA and SB, and zero in a slot field
it does not use (30_encoding.md R53, R55, R56). -/
def Statement (i : Instr) : Prop :=
  i.wellFormed = true →
    opcField (encode i) = i.opcode ∧ rsvField (encode i) = 0 ∧
    saField (encode i) = i.slotFields.getD 0 0 ∧ sbField (encode i) = i.slotFields.getD 1 0

/-- A property of all slot indices is one of the sixteen. -/
theorem slots_sixteen {P : Nat → Prop} (h : ∀ n : Fin 16, P n.val) : ∀ n, slotIndexOk n = true → P n :=
  fun n hn => h ⟨n, by simpa [slotIndexOk] using hn⟩

theorem ctxShake (sa : Nat) : Statement (.ctxShake sa) := by
  intro h
  exact slots_sixteen (P := fun n => opcField (encode (.ctxShake n)) = 0x01 ∧ rsvField (encode (.ctxShake n)) = 0 ∧
    saField (encode (.ctxShake n)) = n ∧ sbField (encode (.ctxShake n)) = 0) (by decide) sa
    (by simpa [Instr.wellFormed, Instr.slotFields] using h)

theorem ctxCshake (sa : Nat) : Statement (.ctxCshake sa) := by
  intro h
  exact slots_sixteen (P := fun n => opcField (encode (.ctxCshake n)) = 0x02 ∧ rsvField (encode (.ctxCshake n)) = 0 ∧
    saField (encode (.ctxCshake n)) = n ∧ sbField (encode (.ctxCshake n)) = 0) (by decide) sa
    (by simpa [Instr.wellFormed, Instr.slotFields] using h)

theorem ctxAbsorb (sa : Nat) : Statement (.ctxAbsorb sa) := by
  intro h
  exact slots_sixteen (P := fun n => opcField (encode (.ctxAbsorb n)) = 0x03 ∧ rsvField (encode (.ctxAbsorb n)) = 0 ∧
    saField (encode (.ctxAbsorb n)) = n ∧ sbField (encode (.ctxAbsorb n)) = 0) (by decide) sa
    (by simpa [Instr.wellFormed, Instr.slotFields] using h)

theorem ctxSqueeze (sa : Nat) : Statement (.ctxSqueeze sa) := by
  intro h
  exact slots_sixteen (P := fun n => opcField (encode (.ctxSqueeze n)) = 0x04 ∧ rsvField (encode (.ctxSqueeze n)) = 0 ∧
    saField (encode (.ctxSqueeze n)) = n ∧ sbField (encode (.ctxSqueeze n)) = 0) (by decide) sa
    (by simpa [Instr.wellFormed, Instr.slotFields] using h)

theorem ctxClone (dst src : Nat) : Statement (.ctxClone dst src) := by
  intro h
  have h2 : slotIndexOk dst = true ∧ slotIndexOk src = true := by
    simpa [Instr.wellFormed, Instr.slotFields] using h
  exact slots_sixteen (P := fun d => ∀ n, slotIndexOk n = true →
      opcField (encode (.ctxClone d n)) = 0x05 ∧ rsvField (encode (.ctxClone d n)) = 0 ∧
      saField (encode (.ctxClone d n)) = d ∧ sbField (encode (.ctxClone d n)) = n)
    (fun d => slots_sixteen (P := fun n =>
      opcField (encode (.ctxClone d.val n)) = 0x05 ∧ rsvField (encode (.ctxClone d.val n)) = 0 ∧
      saField (encode (.ctxClone d.val n)) = d.val ∧ sbField (encode (.ctxClone d.val n)) = n)
      (by revert d; decide)) dst h2.1 src h2.2

theorem ctxReset (sa : Nat) : Statement (.ctxReset sa) := by
  intro h
  exact slots_sixteen (P := fun n => opcField (encode (.ctxReset n)) = 0x06 ∧ rsvField (encode (.ctxReset n)) = 0 ∧
    saField (encode (.ctxReset n)) = n ∧ sbField (encode (.ctxReset n)) = 0) (by decide) sa
    (by simpa [Instr.wellFormed, Instr.slotFields] using h)

theorem ctxFree (sa : Nat) : Statement (.ctxFree sa) := by
  intro h
  exact slots_sixteen (P := fun n => opcField (encode (.ctxFree n)) = 0x07 ∧ rsvField (encode (.ctxFree n)) = 0 ∧
    saField (encode (.ctxFree n)) = n ∧ sbField (encode (.ctxFree n)) = 0) (by decide) sa
    (by simpa [Instr.wellFormed, Instr.slotFields] using h)

theorem ctxStatus (sa : Nat) : Statement (.ctxStatus sa) := by
  intro h
  exact slots_sixteen (P := fun n => opcField (encode (.ctxStatus n)) = 0x08 ∧ rsvField (encode (.ctxStatus n)) = 0 ∧
    saField (encode (.ctxStatus n)) = n ∧ sbField (encode (.ctxStatus n)) = 0) (by decide) sa
    (by simpa [Instr.wellFormed, Instr.slotFields] using h)

theorem encLeft : Statement .encLeft := by intro; decide
theorem encBytepad : Statement .encBytepad := by intro; decide
theorem drbgNew : Statement .drbgNew := by intro; decide
theorem drbgGenerate : Statement .drbgGenerate := by intro; decide
theorem drbgReseed : Statement .drbgReseed := by intro; decide
theorem drbgReset : Statement .drbgReset := by intro; decide
theorem drbgDestroy : Statement .drbgDestroy := by intro; decide
theorem drbgNeedReseed : Statement .drbgNeedReseed := by intro; decide
theorem drbgReadField : Statement .drbgReadField := by intro; decide
theorem drbgTestSetCounter : Statement .drbgTestSetCounter := by intro; decide
theorem diagOffset : Statement .diagOffset := by intro; decide
theorem diagRemix : Statement .diagRemix := by intro; decide

end Sys2Proof.Laws.Encoding
end

