-- ==== Sys2Proof/Tests/Slice0.lean ====
section
/-! SUPPORT. Tests: ill-formed terms, decoding of words written from 30_encoding.md R53 and R56, one step of every command
with the results 95_test_vectors.md gives, and for every statement with hypotheses a state and operands that meet them. -/

namespace Sys2Proof.Tests

-- One theorem at a time: the kernel evaluations below would else each hold a thread of their own.
set_option Elab.async false

open Sys2Proof.Machine

/-! ### The states the tests start from -/

/-- The state after RST with the reference parameters (00_scope.md R8, 95_test_vectors.md). -/
def base : State := State.resetWith 4 Params.reference

/-- `s` with a command running: its latches and the DIN bytes it has taken. -/
def running (s : State) (a0 a1 a2 : Reg) (din : List Byte) : State :=
  { s with a0 := a0, a1 := a1, a2 := a2, phase := .exec din }

/-- `s` with a context in slot 0. -/
def holding (s : State) (c : Ctx) : State := { s with slots := s.slots.set 0 c }

/-- A SHAKE128 context that has turned to squeezing. -/
def squeezingCtx : Ctx := { newShake 168 with dir := .squeezing }

/-- The registers of a strength-256 instance with an empty live context. -/
def activeDrbg : Drbg :=
  { dstate := .active, drate := 136, dseedlen := 64, dcounter := 0, dnw := 1, dhasctx := true, dlive := newShake 136,
    dfork := Ctx.free }

/-- `base` with an active instance. -/
def active : State := { base with drbg := activeDrbg }

/-- The state after a command. -/
def after (i : Instr) (s : State) : State :=
  match exec i s with
  | .next t => t
  | .fault _ => s
  | .refused _ => s

/-- The state after a step. -/
def afterStep (s : State) : State :=
  match step s with
  | .next t => t
  | .fault _ => s
  | .refused _ => s

/-- The CTX_STATUS word of slot 0. -/
def slot0Word (s : State) : Option Reg := s.slots[0]?.map Ctx.statusWord

/-- "abc". -/
def abc : List Byte := [0x61, 0x62, 0x63]

/-- "test me!" (44_drbg_helpers.md R118). -/
def testMe : List Byte := [0x74, 0x65, 0x73, 0x74, 0x20, 0x6d, 0x65, 0x21]

/-- "Email Signature" (95_test_vectors.md section 2.3). -/
def emailSignature : List Byte :=
  [0x45, 0x6d, 0x61, 0x69, 0x6c, 0x20, 0x53, 0x69, 0x67, 0x6e, 0x61, 0x74, 0x75, 0x72, 0x65]

/-- Remix(zeros(25)) (95_test_vectors.md section 2.5). -/
def remixedZeros : List Byte :=
  [0x7c, 0xa1, 0x45, 0xa6, 0x67, 0xc6, 0x4b, 0xcb, 0xcd, 0x8b, 0x48, 0x9d, 0x4d, 0xb9, 0xce, 0x0a, 0x9d, 0xb1, 0x55,
    0xb6, 0x77, 0xd6, 0x5b, 0xdb, 0xdd]

/-! ### Well-formedness: an index that does not fit its field is refused -/

theorem test_wf_one_slot : [Instr.ctxShake 15, .ctxCshake 0, .ctxAbsorb 3, .ctxSqueeze 4, .ctxReset 7, .ctxFree 8,
    .ctxStatus 15].all Instr.wellFormed = true := by decide

theorem test_wf_slot_too_large : [Instr.ctxShake 16, .ctxCshake 16, .ctxAbsorb 16, .ctxSqueeze 16, .ctxReset 16,
    .ctxFree 16, .ctxStatus 16].any Instr.wellFormed = false := by decide

theorem test_wf_clone_destination : (Instr.ctxClone 16 0).wellFormed = false := by decide

theorem test_wf_clone_source : (Instr.ctxClone 0 16).wellFormed = false := by decide

/-! ### Decoding: RSV, SB, SA and OPC written out from 30_encoding.md R53 and R56 -/

theorem test_decode_ctx_shake : decode 0b0000000000000000_0000_0000_00000001 = .ok (.ctxShake 0) := by decide
theorem test_decode_ctx_cshake : decode 0b0000000000000000_0000_0001_00000010 = .ok (.ctxCshake 1) := by decide
theorem test_decode_ctx_absorb : decode 0b0000000000000000_0000_0010_00000011 = .ok (.ctxAbsorb 2) := by decide
theorem test_decode_ctx_squeeze : decode 0b0000000000000000_0000_0011_00000100 = .ok (.ctxSqueeze 3) := by decide
theorem test_decode_ctx_clone : decode 0b0000000000000000_0011_0001_00000101 = .ok (.ctxClone 1 3) := by decide
theorem test_decode_ctx_reset : decode 0b0000000000000000_0000_1000_00000110 = .ok (.ctxReset 8) := by decide
theorem test_decode_ctx_free : decode 0b0000000000000000_0000_0010_00000111 = .ok (.ctxFree 2) := by decide
theorem test_decode_ctx_status : decode 0b0000000000000000_0000_1111_00001000 = .ok (.ctxStatus 15) := by decide
theorem test_decode_enc_left : decode 0b0000000000000000_0000_0000_00010000 = .ok .encLeft := by decide
theorem test_decode_enc_bytepad : decode 0b0000000000000000_0000_0000_00010001 = .ok .encBytepad := by decide
theorem test_decode_drbg_new : decode 0b0000000000000000_0000_0000_00100000 = .ok .drbgNew := by decide
theorem test_decode_drbg_generate : decode 0b0000000000000000_0000_0000_00100001 = .ok .drbgGenerate := by decide
theorem test_decode_drbg_reseed : decode 0b0000000000000000_0000_0000_00100010 = .ok .drbgReseed := by decide
theorem test_decode_drbg_reset : decode 0b0000000000000000_0000_0000_00100011 = .ok .drbgReset := by decide
theorem test_decode_drbg_destroy : decode 0b0000000000000000_0000_0000_00100100 = .ok .drbgDestroy := by decide
theorem test_decode_drbg_need_reseed : decode 0b0000000000000000_0000_0000_00100101 = .ok .drbgNeedReseed := by
  decide
theorem test_decode_drbg_read_field : decode 0b0000000000000000_0000_0000_00100110 = .ok .drbgReadField := by decide
theorem test_decode_drbg_test_set_counter :
    decode 0b0000000000000000_0000_0000_00100111 = .ok .drbgTestSetCounter := by decide
theorem test_decode_diag_offset : decode 0b0000000000000000_0000_0000_00110000 = .ok .diagOffset := by decide
theorem test_decode_diag_remix : decode 0b0000000000000000_0000_0000_00110001 = .ok .diagRemix := by decide

/-- 30_encoding.md R58: the ends of each illegal range. -/
theorem test_decode_undefined :
    [0x00, 0x09, 0x0F, 0x12, 0x1F, 0x28, 0x2F, 0x32, 0xFF].all
      (fun n => decode (BitVec.ofNat 32 n) = .error .undefinedOpcode) = true := by decide

theorem test_decode_reserved : decode 0x00010001 = .error .reservedField := by decide
theorem test_decode_unused_sb : decode 0x00001001 = .error .unusedSlotField := by decide
theorem test_decode_unused_sa : decode 0x00000110 = .error .unusedSlotField := by decide

/-- The encoder writes the words of program P2 (95_test_vectors.md section 3). -/
theorem test_encode : [encode (.ctxCshake 1), encode (.ctxClone 2 1), encode (.ctxFree 2)] =
    [0x00000102, 0x00001205, 0x00000207] := by decide

/-- A placed word is decoded and run by the very next step. -/
theorem test_fetch_word : decodeTableWord 16 0x0105 = some (.ctxClone 1 0) ∧
    (afterStep (base.withFetchWord 16 0x0105)).err = .slotEmpty := by decide

/-! ### One step of every command -/

/-- 95_test_vectors.md section 2.1. -/
theorem test_ctx_shake : slot0Word (after (.ctxShake 0) (running base 128 0 0 [])) = some 0x00A81F01 := by
  decide +kernel

/-- 95_test_vectors.md program P6 line 3. -/
theorem test_ctx_shake_level : (after (.ctxShake 0) (running base 512 0 0 [])).err = .badArg := by decide +kernel

/-- 95_test_vectors.md section 2.3. -/
theorem test_ctx_cshake :
    slot0Word (after (.ctxCshake 0) (running base 128 0 15 emailSignature)) = some 0x0000001300A80401 := by
  decide +kernel

/-- 95_test_vectors.md section 2.3: MAX_NS_LEN = 256. -/
theorem test_ctx_cshake_length : (after (.ctxCshake 0) (running base 128 257 0 [])).err = .badArg := by
  decide +kernel

/-- 95_test_vectors.md section 2.1. -/
theorem test_ctx_absorb :
    slot0Word (after (.ctxAbsorb 0) (running (holding base (newShake 168)) 3 0 0 abc)) = some 0x03A81F01 := by
  decide +kernel

/-- 95_test_vectors.md program P1 line 6. -/
theorem test_ctx_absorb_refused :
    (after (.ctxAbsorb 0) (running (holding base squeezingCtx) 1 0 0 [0x64])).err = .absorbAfterSqueeze := by
  decide +kernel

/-- 95_test_vectors.md program P1 line 4: the 32 bytes of SHAKE128("abc"), with Keccak-f[1600]. -/
theorem test_ctx_squeeze :
    (after (.ctxSqueeze 0)
      (running (holding base ((newShake 168).absorb .keccakF1600 abc)) 32 0 0 [])).doutOffered =
    [0x58, 0x81, 0x09, 0x2d, 0xd8, 0x18, 0xbf, 0x5c, 0xf8, 0xa3, 0xdd, 0xb7, 0x93, 0xfb, 0xcb, 0xa7, 0x40, 0x97, 0xd5,
      0xc5, 0x26, 0xa6, 0xd3, 0x5f, 0x97, 0xb8, 0x33, 0x51, 0x94, 0x0f, 0x2c, 0xc8] := by
  decide +kernel

/-- 95_test_vectors.md section 2.1: squeezing no byte finalizes. -/
theorem test_ctx_squeeze_nothing :
    slot0Word (after (.ctxSqueeze 0) (running (holding base (newShake 168)) 0 0 0 [])) = some 0x00A81F03 := by
  decide +kernel

/-- 40_sponge.md R79's example: the destination is SA. -/
theorem test_ctx_clone :
    ((after (.ctxClone 1 0) (running (holding base (newShake 136)) 0 0 0 [])).slots[1]?.map Ctx.statusWord) =
      some 0x00881F01 := by
  decide +kernel

/-- 95_test_vectors.md section 2.1: a clone from a free slot. -/
theorem test_ctx_clone_empty : (after (.ctxClone 1 2) (running base 0 0 0 [])).err = .slotEmpty := by decide +kernel

/-- 40_sponge.md R80's example. -/
theorem test_ctx_reset :
    slot0Word (after (.ctxReset 0) (running (holding base squeezingCtx) 0 0 0 [])) = some 0x00A81F01 := by
  decide +kernel

/-- 40_sponge.md R81's example. -/
theorem test_ctx_free :
    slot0Word (after (.ctxFree 0) (running (holding base (newShake 168)) 0 0 0 [])) = some 0 := by decide +kernel

/-- 95_test_vectors.md program P1 line 3, RESULT. -/
theorem test_ctx_status :
    (after (.ctxStatus 0) (running (holding base ((newShake 168).absorb .keccakF1600 abc)) 0 0 0 [])).result =
      0x03A81F01 := by
  decide +kernel

/-- 95_test_vectors.md program P6 line 5. -/
theorem test_ctx_status_bad_slot : (after (.ctxStatus 4) (running base 0 0 0 [])).err = .badSlot := by decide +kernel

/-- 95_test_vectors.md section 2.2. -/
theorem test_enc_left : (after .encLeft (running base (2 ^ 64 - 1) 0 0 [])).doutOffered =
    [0x08, 0xff, 0xff, 0xff, 0xff, 0xff, 0xff, 0xff, 0xff] := by decide +kernel

theorem test_enc_left_256 : (after .encLeft (running base 256 0 0 [])).doutOffered = [0x02, 0x01, 0x00] := by
  decide +kernel

/-- 95_test_vectors.md section 2.2. -/
theorem test_enc_bytepad : (after .encBytepad (running base 8 3 0 abc)).doutOffered =
    [0x01, 0x08, 0x61, 0x62, 0x63, 0x00, 0x00, 0x00] := by decide +kernel

/-- 95_test_vectors.md section 2.2, BYTEPAD_EXTRA_ALIGNED = true. -/
theorem test_enc_bytepad_extra :
    (after .encBytepad (running
      { base with params := { Params.reference with bytepadExtraAligned := true } } 2 0 0 [])).doutOffered =
    [0x01, 0x02, 0x00, 0x00] := by decide +kernel

/-- 95_test_vectors.md section 2.4: DNW 1 and DCOUNTER 0 after DRBG_NEW 256, zeros(32). -/
theorem test_drbg_new : ((after .drbgNew (running base 256 32 0 (zeros 32))).drbg.dnw,
    (after .drbgNew (running base 256 32 0 (zeros 32))).drbg.dlive.cursor) = (1, 0) := by decide +kernel

/-- 95_test_vectors.md section 1.7: the length is refused before any DIN byte is asked for. -/
theorem test_drbg_new_short_seed :
    ((after .drbgNew (running base 256 31 0 [])).err, (after .drbgNew (running base 256 31 0 [])).phase) =
      (.validation, .idle) := by decide +kernel

/-- 95_test_vectors.md section 2.4: DCOUNTER = 2^48 is still accepted; an empty additionalIn adds 1 to DNW. -/
theorem test_drbg_generate :
    ((after .drbgGenerate (running
        { active with drbg := { activeDrbg with dcounter := 0x0001000000000000 } } 1 0 0 [])).drbg.dcounter,
      (after .drbgGenerate (running
        { active with drbg := { activeDrbg with dcounter := 0x0001000000000000 } } 1 0 0 [])).drbg.dnw) =
    (0x0001000000000001, 2) := by decide +kernel

/-- 95_test_vectors.md program P4 line 5. -/
theorem test_drbg_generate_refused :
    ((after .drbgGenerate (running
        { active with drbg := { activeDrbg with dcounter := 0x0001000000000001 } } 1 0 0 [])).err,
      (after .drbgGenerate (running
        { active with drbg := { activeDrbg with dcounter := 0x0001000000000001 } } 1 0 0 [])).doutOffered) =
    (.reseedRequired, []) := by decide +kernel

/-- 43_drbg.md R105's example, DCOUNTER and DNW. -/
theorem test_drbg_reseed :
    ((after .drbgReseed (running
        { active with drbg := { activeDrbg with dcounter := 0x0001000000000001, dnw := 2 } } 32 0 0 (zeros 32))).drbg.dcounter,
      (after .drbgReseed (running
        { active with drbg := { activeDrbg with dcounter := 0x0001000000000001, dnw := 2 } } 32 0 0 (zeros 32))).drbg.dnw) =
    (0, 3) := by decide +kernel

/-- 43_drbg.md R106's example: a bad length leaves DLIVE rebuilt, DCOUNTER and DNW as they were. -/
theorem test_drbg_reset_bad_length :
    (after .drbgReset (running
      { active with drbg := { activeDrbg with
          dcounter := 1, dnw := 4, dlive := { newShake 136 with lanes := Vector.replicate 25 7 } } } 31 0 0 [])).drbg =
    { activeDrbg with dcounter := 1, dnw := 4 } := by decide +kernel

/-- 43_drbg.md R106: DNW + 1 and DCOUNTER 0. -/
theorem test_drbg_reset :
    ((after .drbgReset (running { active with drbg := { activeDrbg with dcounter := 9 } } 32 0 0 (zeros 32))).drbg.dcounter,
      (after .drbgReset (running active 32 0 0 (zeros 32))).drbg.dnw) = (0, 2) := by decide +kernel

/-- 43_drbg.md R112's example. -/
theorem test_drbg_destroy : (after .drbgDestroy (running active 0 0 0 [])).drbg = Drbg.destroyed := by decide +kernel

/-- 43_drbg.md R113's example. -/
theorem test_drbg_need_reseed :
    ((after .drbgNeedReseed { active with drbg := { activeDrbg with dcounter := 0x0001000000000000 } }).result,
      (after .drbgNeedReseed { active with drbg := { activeDrbg with dcounter := 0x0001000000000001 } }).result) =
    (0, 1) := by decide +kernel

/-- 43_drbg.md R114's example. -/
theorem test_drbg_read_field : (after .drbgReadField (running active 4 0 0 [])).result = 1 := by decide +kernel

/-- 95_test_vectors.md section 2.4. -/
theorem test_drbg_read_field_six : (after .drbgReadField (running active 6 0 0 [])).err = .badArg := by decide +kernel

/-- 43_drbg.md R115's example. -/
theorem test_drbg_test_set_counter :
    (after .drbgTestSetCounter (running active 0x0001000000000000 0 0 [])).drbg.dcounter = 0x0001000000000000 := by
  decide +kernel

/-- 95_test_vectors.md section 2.4: with TEST_MODE = 0, STS reads 0x00271500. -/
theorem test_drbg_test_set_counter_disabled :
    (after .drbgTestSetCounter
      (running { base with params := { Params.reference with testMode := false } } 5 0 0 [])).sts = 0x00271500 := by
  decide +kernel

/-- 44_drbg_helpers.md R125's example. -/
theorem test_diag_offset : (after .diagOffset (running base 1 8 0 testMe)).result = 66 := by decide +kernel

/-- 44_drbg_helpers.md R126's example. -/
theorem test_diag_remix : (after .diagRemix (running base 0 0 0 (zeros 25))).doutOffered = remixedZeros := by
  decide +kernel

/-- 95_test_vectors.md section 2.6: STS after three illegal words. -/
theorem test_illegal_words :
    [0x00000000, 0x000000FF, 0x00010001].map (fun w => (afterStep (base.issued w)).sts) =
      [0x01001000, 0x01FF1000, 0x01011000] := by decide +kernel

/-- 30_encoding.md R60: a command that declares DIN bytes enters DATA_IN whatever is on offer, and takes no byte in EXEC. -/
theorem test_data_in_entered :
    ((afterStep { base.issued 0x31 with dinOffer := zeros 25 }).phase,
      (afterStep { base.issued 0x31 with dinOffer := zeros 25 }).dinOffer) = (.dataIn [] 25, zeros 25) := by
  decide +kernel

/-- 10_state.md R25: in DATA_IN no more than the missing bytes are taken, and PHASE is EXEC with the last of them. -/
theorem test_data_in_takes :
    ((afterStep { base with phase := .dataIn [0x61] 2, dinOffer := [0x62, 0x63, 0x64] }).phase,
      (afterStep { base with phase := .dataIn [0x61] 2, dinOffer := [0x62, 0x63, 0x64] }).dinOffer) =
    (.exec abc, [0x64]) := by decide

/-- 30_encoding.md R60: output is offered in DATA_OUT also to a host that stands ready for it. -/
theorem test_data_out_entered :
    (afterStep { base.issued 0x10 with doutReady := 9 }).phase =
      .dataOut [0x01, 0x00] { err := .ok, lastOp := 0x10, result := 0 } := by decide +kernel

/-- 30_encoding.md R62: what the assembler writes for program P2 line 1. -/
theorem test_assemble :
    (StreamLine.ctxCshake 1 128 (.data (.text "")) (.data (.text "Email Signature"))).assemble =
      some { instr := .ctxCshake 1, args := [(0, 128), (1, 0), (2, 15)], din := emailSignature } := by decide +kernel

/-- 30_encoding.md R66 and R64: a host program that renews a missing instance only when the guard holds. -/
theorem test_host_program :
    (match State.runLines
        [.command .drbgNeedReseed, .guardedGoto (.errIs .ok) "end", .guardedCommand (.errIs .noInstance) (.encLeft 256),
          .label "end"] 10 0 base with
      | .next t => t.doutTaken
      | .fault _ => []
      | .refused _ => []) = [0x02, 0x01, 0x00] := by decide +kernel

/-! ### Witnesses: for every statement with hypotheses, a state and operands that meet them, clause by clause -/

/-- `base` waiting in DATA_OUT for a host that stands ready for `n` bytes. -/
def offeringTwo (n : Nat) : State :=
  { base with doutReady := n, phase := .dataOut [0x01, 0x02] { err := .ok, lastOp := 0x10, result := 0 } }

theorem witness_DecodeOfEncode : (Instr.ctxClone 15 15).wellFormed = true := by decide

theorem witness_EncodeOfDecode : decode 0x0000F805 = .ok (.ctxClone 8 15) := by decide

theorem witness_IllegalWordsAreThoseListed : decode (base.issued 0x00000032).cmd = .error .undefinedOpcode := by decide

theorem witness_StepRunsDecodedCommand :
    (∃ (s : State) (i : Instr) (taken : List Byte), s.rst = false ∧ s.phase = .exec taken ∧ taken ≠ [] ∧
      (∃ ts, s.turns = .engine :: ts) ∧ decode s.cmd = .ok i) ∧
    (∃ (s : State) (i : Instr), s.rst = false ∧ s.phase = .exec [] ∧ s.turns = [] ∧ decode s.cmd = .ok i) ∧
    (∃ (s : State) (e : DecodeError), s.rst = false ∧ s.phase = .exec [] ∧ s.turns = [] ∧ decode s.cmd = .error e) ∧
    (∃ (s : State) (a : HostAction), s.turns = [.host a]) ∧
    (∃ (w : Nat) (i : Instr), w < 2 ^ 32 ∧ decode (BitVec.ofNat 32 w) = .ok i) ∧
    (∃ s : State, s.rst = true ∧ s.phase = .exec [] ∧ s.turns = [.engine]) ∧
    (∃ s : State, s.rst = false ∧ s.phase = .idle ∧ s.turns = []) :=
  ⟨⟨{ base with cmd := 0x31, phase := .exec (zeros 25), turns := [.engine] }, .diagRemix, zeros 25, rfl, rfl, by decide,
      ⟨[], rfl⟩, by decide⟩,
    ⟨base.issued 0x00000F08, .ctxStatus 15, rfl, rfl, rfl, by decide⟩,
    ⟨base.issued 0x00000032, .undefinedOpcode, rfl, rfl, rfl, by decide⟩,
    ⟨{ base with turns := [.host (.setRst false)] }, _, rfl⟩, ⟨0xFF05, .ctxClone 15 15, by decide, by decide⟩,
    ⟨{ base with rst := true, phase := .exec [], turns := [.engine] }, rfl, rfl, rfl⟩, ⟨base, rfl, rfl, rfl⟩⟩

theorem witness_DataOutMovesBytesInOrder :
    (offeringTwo 2).rst = false ∧ (offeringTwo 2).turns = [] ∧
    (offeringTwo 2).phase = .dataOut [0x01, 0x02] { err := .ok, lastOp := 0x10, result := 0 } ∧
    [0x01, 0x02].length ≤ (offeringTwo 2).doutReady ∧ (offeringTwo 1).doutReady < [0x01, 0x02].length := by decide

theorem witness_CmdWriteIssuesOrIsDropped :
    (base.rst = false ∧ base.busy = false) ∧ ((offeringTwo 0).rst = false ∧ (offeringTwo 0).busy = true) := by decide

theorem witness_ArgWriteNeverReachesRunningCommand :
    base.rst = false ∧ (offeringTwo 1).rst = false ∧ (offeringTwo 1).phase ≠ .idle ∧
    exec .drbgDestroy base = .next (after .drbgDestroy base) := ⟨rfl, rfl, by decide, rfl⟩

theorem witness_RstAbandonsEverything :
    ({ offeringTwo 1 with turns := [.host (.setRst true)] } : State).turns = .host (.setRst true) :: [] := rfl

/-- The invariant holds of a state that holds contexts of both kinds and an active instance, in DATA_IN. -/
theorem witness_StepKeepsInvariant :
    ∃ s : State, s.Inv ∧ s.phase = .dataIn [0x07] 24 ∧ s.drbg.dstate = .active ∧ ∃ t, step s = .next t :=
  ⟨{ active with cmd := 0x31, phase := .dataIn [0x07] 24,
                 slots := [newShake 168, squeezingCtx, { newShake 136 with ds := 0x04, ib := [1] }, Ctx.free] },
    ⟨by decide, by decide +kernel, by decide +kernel, by decide, by decide⟩, rfl, rfl, ⟨_, rfl⟩⟩

theorem witness_InternalAbsorbNeverReported :
    ∃ s : State, s.Inv ∧ s.err ≠ .internalAbsorb ∧
      (∃ rest done, s.phase = .dataOut rest done) ∧
      (∀ rest done, s.phase = .dataOut rest done → done.err = .ok) ∧ ∃ t, step s = .next t :=
  ⟨offeringTwo 1, ⟨by decide, by decide +kernel, by decide +kernel, by decide, by decide⟩, by decide, ⟨_, _, rfl⟩,
    (by intro rest done h; cases h; rfl), ⟨_, rfl⟩⟩

/-- A state on which DRBG_RESEED meets a squeezing live context, which no run reaches. -/
def misused : State :=
  { active with cmd := 0x22, a0 := 32, phase := .exec (zeros 32), drbg := { activeDrbg with dlive := squeezingCtx } }

theorem witness_ErrorsLeaveStateAsItWas :
    (∃ s t : State, s.runCommand = .next t ∧ t.phase = .idle ∧ t.err ≠ .ok ∧ t.err ≠ .internalAbsorb ∧
      ¬(decode s.cmd = .ok .drbgReset ∧ t.err = .validation)) ∧
    (∃ s t : State, s.runCommand = .next t ∧ t.phase = .idle ∧ decode s.cmd = .ok .drbgReset ∧ t.err = .validation) ∧
    (∃ s t : State, s.runCommand = .next t ∧ t.phase = .idle ∧ t.err = .internalAbsorb) :=
  ⟨⟨base.issued 0x21, after .drbgGenerate (base.issued 0x21), rfl, by decide⟩,
    ⟨{ active with cmd := 0x23, a0 := 31 }, after .drbgReset { active with cmd := 0x23, a0 := 31 }, rfl,
      by decide +kernel⟩,
    ⟨misused, after .drbgReseed misused, rfl, by decide +kernel⟩⟩

theorem witness_DrbgLifeCycle :
    (active.drbg.good ∧ active.drbg.dstate = .active ∧ exec .drbgDestroy active = .next (after .drbgDestroy active)) ∧
    (base.drbg.good ∧ base.drbg.dstate = .empty ∧ exec .drbgNew base = .next (after .drbgNew base)) ∧
    (Drbg.destroyed.good ∧ Drbg.destroyed.dstate = .destroyed) :=
  ⟨⟨by decide +kernel, rfl, rfl⟩, ⟨by decide +kernel, rfl, rfl⟩, ⟨by decide +kernel, rfl⟩⟩

theorem witness_SlotsAreIndependent :
    (3 ∉ (Instr.ctxClone 1 0).slotFields ∧ exec (.ctxClone 1 0) base = .next (after (.ctxClone 1 0) base)) ∧
    (0 ∉ (Instr.ctxClone 1 0).slotFields.take 1 ∧ exec (.ctxClone 1 0) base = .next (after (.ctxClone 1 0) base)) ∧
    (Instr.ctxClone 1 0).slotFields ≠ [] ∧
    (∃ j ∈ (Instr.ctxClone 0 4).slotFields, base.slots.length ≤ j) :=
  ⟨⟨by decide, rfl⟩, ⟨by decide, rfl⟩, by decide, 4, by decide, by decide⟩

theorem witness_DrbgIsIndependentOfSlots :
    (Instr.encBytepad.opcode.toNat < 0x20 ∧ exec .encBytepad base = .next (after .encBytepad base)) ∧
    (0x30 ≤ Instr.diagOffset.opcode.toNat ∧ exec .diagOffset base = .next (after .diagOffset base)) :=
  ⟨⟨by decide, rfl⟩, ⟨by decide, rfl⟩⟩

theorem witness_CommandTakesDeclaredBytes :
    ((running base 0 0 0 []).phase = .exec [] ∧
      exec .diagRemix (running base 0 0 0 []) = .next (after .diagRemix (running base 0 0 0 []))) ∧
    ((running base 0 0 0 (zeros 25)).phase = .exec (zeros 25) ∧
      (zeros 25).length = declaredDin .diagRemix (running base 0 0 0 (zeros 25)) ∧
      exec .diagRemix (running base 0 0 0 (zeros 25)) = .next (after .diagRemix (running base 0 0 0 (zeros 25)))) ∧
    (∃ s : State, s.rst = false ∧ s.phase = .dataIn [0x61] 2 ∧ s.turns = [] ∧ s.dinOffer = [0x62, 0x63] ++ [0x64] ∧
      [0x62, 0x63].length = 2) ∧
    (∃ s : State, s.rst = false ∧ s.phase = .dataIn [] 2 ∧ s.turns = [.engine] ∧ s.dinOffer.length < 2) :=
  ⟨⟨rfl, rfl⟩, ⟨rfl, rfl, rfl⟩,
    ⟨{ base with phase := .dataIn [0x61] 2, dinOffer := [0x62, 0x63, 0x64] }, rfl, rfl, rfl, rfl, rfl⟩,
    ⟨{ base with phase := .dataIn [] 2, dinOffer := [0x62], turns := [.engine] }, rfl, rfl, rfl, by decide⟩⟩

theorem witness_DinArrivalDoesNotMatter :
    ∃ s : State, s.rst = false ∧ s.phase = .dataIn [0x61] 3 ∧
      (s.dinOffer ++ [[0x62], [], [0x63]].flatten).length < 3 :=
  ⟨{ base with phase := .dataIn [0x61] 3 }, rfl, rfl, by decide⟩

theorem witness_SlotCommandFrame :
    (Instr.ctxStatus 0).opcode.toNat < 0x10 ∧
    exec (.ctxStatus 0) base = .next (after (.ctxStatus 0) base) ∧ 1 ≠ (Instr.ctxStatus 0).slotA :=
  ⟨by decide, rfl, by decide⟩

theorem witness_QueryCommandFrame :
    ∃ i : Instr, i = .diagRemix ∧ exec i (running base 0 0 0 (zeros 25)) =
      .next (after .diagRemix (running base 0 0 0 (zeros 25))) := ⟨_, rfl, rfl⟩

theorem witness_DrbgCommandFrame :
    0x20 ≤ Instr.drbgTestSetCounter.opcode.toNat ∧ Instr.drbgTestSetCounter.opcode.toNat < 0x30 ∧ active.drbg.good ∧
    exec .drbgTestSetCounter active = .next (after .drbgTestSetCounter active) ∧
    exec .drbgReseed active = .next (after .drbgReseed active) :=
  ⟨by decide, by decide, by decide +kernel, rfl, rfl⟩

theorem witness_StateByteAfterXor : 199 / 8 < 25 ∧ 0 < 200 ∧ 199 < 200 := by decide

theorem witness_AbsorbArithmetic :
    ({ newShake 168 with cursor := 165 } : Ctx).cursor.toNat < (newShake 168).rate.toNat ∧
    (newShake 168).rate.toNat ≤ 200 ∧
    ({ newShake 168 with cursor := 165 } : Ctx).cursor.toNat + [0x01, 0x02].length < (newShake 168).rate.toNat ∧
    ({ newShake 168 with cursor := 165 } : Ctx).cursor.toNat + abc.length = (newShake 168).rate.toNat := by
  decide

theorem witness_SqueezeSplitsAndAdvances :
    (({ newShake 168 with cursor := 167 } : Ctx).dir = .absorbing ∧
      ({ newShake 168 with cursor := 167 } : Ctx).cursor.toNat < (newShake 168).rate.toNat ∧
      (newShake 168).rate.toNat ≤ 200 ∧ 167 < 200) ∧
    (squeezingCtx.dir = .squeezing ∧ squeezingCtx.cursor.toNat + 168 ≤ squeezingCtx.rate.toNat) ∧
    (({ squeezingCtx with cursor := 168 } : Ctx).cursor = squeezingCtx.rate ∧ squeezingCtx.rate ≠ 0 ∧ 0 < 1) ∧
    0 < squeezingCtx.rate.toNat ∧ squeezingCtx.cursor.toNat ≤ squeezingCtx.rate.toNat ∧
    squeezingCtx.cursor.toNat + 168 ≤ squeezingCtx.rate.toNat ∧
    squeezingCtx.rate.toNat < squeezingCtx.cursor.toNat + 169 := by decide

theorem witness_ResetRestoresConstruction :
    (squeezingCtx.valid = true ∧ squeezingCtx.rate = 168 ∧ squeezingCtx.ds = 0x1F ∧ squeezingCtx.ib = []) ∧
    (∃ c : Ctx, c.valid = true ∧ c.rate = 136 ∧ c.ds = 0x04 ∧ c.ib = initBlock [] abc ∧
      ¬(([] : List Byte) = [] ∧ abc = [])) :=
  ⟨by decide, ⟨{ newShake 136 with ds := 0x04, ib := initBlock [] abc }, by decide +kernel⟩⟩

theorem witness_LeftEncodeIsMinimal : 2 ^ 64 - 1 < 2 ^ 64 ∧ 1 ≤ 2 ^ 64 - 1 ∧ 0 < byteCount (2 ^ 64 - 1) := by decide

theorem witness_LeftDecodeOfLeftEncode :
    (1 ≤ (8 : Byte).toNat ∧ (8 : Byte).toNat ≤ 8 ∧ (zeros 8).length = (8 : Byte).toNat) ∧
    ¬(1 ≤ (9 : Byte).toNat ∧ (9 : Byte).toNat ≤ 8 ∧ (zeros 9).length = (9 : Byte).toNat) ∧
    leftDecode [0x02, 0x00, 0x05] = some 5 := by decide

theorem witness_BytepadAlignsToWidth :
    1 ≤ 1 ∧ (newShake 168).cursor = 0 ∧ 1 ≤ (newShake 168).rate.toNat := by decide

theorem witness_OffsetIgnoresOrder :
    xor8 [0x12, 0x34] = xor8 [0x26] ∧ List.Perm ([0x12, 0x34] : List Byte) [0x34, 0x12] ∧ (7 : Reg).toNat ≤ 7 :=
  ⟨by decide, List.Perm.swap _ _ _, by decide⟩

theorem witness_PrePaddedAbsorbArithmetic :
    ({ newShake 136 with cursor := 135 } : Ctx).dir = .absorbing ∧
    ({ newShake 136 with cursor := 135 } : Ctx).cursor.toNat < (newShake 136).rate.toNat ∧ abc ≠ [] := by decide

theorem witness_WindowInsideScratch :
    (zeros 271).length = scratchLen 1 136 ∧ (zeros 335).length = scratchLen 168 168 ∧ 272 ≤ (zeros 335).length := by
  decide +kernel

theorem witness_RemixCoreIsInjective :
    ((zeros 25).length = 25 ∧ ∃ v, zeros 25 = List.replicate 25 v) ∧
    ((1 :: zeros 24).length = 25 ∧ ¬∃ v, 1 :: zeros 24 = List.replicate 25 v) ∧
    (8 &&& 0x07 = 0 ∧ (10 &&& 0x07 ≠ 0 ∧ 10 &&& 0x0A ≠ 0) ∧ (4 &&& 0x07 ≠ 0 ∧ 4 &&& 0x0A = 0)) ∧
    remixCore (zeros 25) = remixCore (zeros 25) ∧
    remixStep (zeros 25) ((0, 24), 1) = remixStep (zeros 25) ((0, 24), 1) :=
  ⟨⟨rfl, 0, rfl⟩, ⟨rfl, by decide⟩, by decide, rfl, rfl⟩

theorem witness_ReplayEquivalence :
    (newShake 136).dir = .absorbing ∧ (newShake 136).cursor = 0 ∧ 2 ≤ (newShake 136).rate.toNat ∧
    (newShake 136).rate.toNat ≤ 200 := by decide

theorem witness_CounterStaysBounded :
    ∃ s : State, Instr.drbgNeedReseed ≠ .drbgTestSetCounter ∧ s.drbg.dcounter.toNat ≤ 2 ^ 48 + 1 ∧
      2 ^ 48 < s.drbg.dcounter.toNat ∧ exec .drbgNeedReseed s = .next (after .drbgNeedReseed s) :=
  ⟨{ active with drbg := { activeDrbg with dcounter := 0x0001000000000001 } }, by decide, by decide, by decide, rfl⟩

theorem witness_CtxShakeBuildsPlainContext :
    base.slots.length ≤ 4 ∧ 3 < base.slots.length ∧
    ((running base 192 0 0 []).a0 ≠ 128 ∧ (running base 192 0 0 []).a0 ≠ 256) ∧
    ((running base 128 0 0 []).a0 = 128 ∧ (168 : Byte) = 168) ∧
    ((running base 256 0 0 []).a0 = 256 ∧ (136 : Byte) = 136) := by decide

theorem witness_CtxCshakeBuildsCustomContext :
    (base.slots.length ≤ 4 ∧ 3 < base.slots.length) ∧
    (base.a0 ≠ 128 ∧ base.a0 ≠ 256) ∧
    base.params.maxNsLen.val < (running base 128 257 0 []).a1.toNat ∧
    ((running base 128 256 256 []).a1.toNat ≤ base.params.maxNsLen.val ∧
      (running base 128 256 256 []).dinTaken.length < 256 + 256) ∧
    ((running base 128 1 2 abc).dinTaken = [0x61] ++ [0x62, 0x63] ∧
      [0x61].length = (running base 128 1 2 abc).a1.toNat ∧
      [0x62, 0x63].length = (running base 128 1 2 abc).a2.toNat) := by
  decide +kernel

theorem witness_EmptyCustomizationIsPlain :
    (running base 128 0 0 []).a1 = 0 ∧ (running base 128 0 0 []).a2 = 0 ∧
    exec (.ctxShake 3) (running base 128 0 0 []) = .next (after (.ctxShake 3) (running base 128 0 0 [])) :=
  ⟨rfl, rfl, rfl⟩

theorem witness_CtxAbsorbAbsorbsDin :
    (holding base (newShake 168)).slots.length ≤ 4 ∧
    ((holding base (newShake 168)).slots[3]? = some Ctx.free ∧ Ctx.free.valid = false) ∧
    ((holding base squeezingCtx).slots[0]? = some squeezingCtx ∧ squeezingCtx.valid = true ∧
      squeezingCtx.dir = .squeezing) ∧
    ((holding base (newShake 168)).slots[0]? = some (newShake 168) ∧ (newShake 168).valid = true ∧
      (newShake 168).dir = .absorbing ∧ (running base 4 0 0 []).dinTaken.length < (4 : Reg).toNat) ∧
    (running base 3 0 0 abc).dinTaken = abc ∧
    abc.length = (running base 3 0 0 abc).a0.toNat := by
  decide +kernel

theorem witness_CtxSqueezeEmitsBytes :
    base.slots.length ≤ 4 ∧ (base.slots[3]? = some Ctx.free ∧ Ctx.free.valid = false) ∧
    (holding base squeezingCtx).slots[0]? = some squeezingCtx ∧ squeezingCtx.valid = true ∧
    squeezingCtx.squeeze .keccakF1600 1 = ([0], { squeezingCtx with cursor := 1 }) ∧
    (running base 0 0 0 []).a0 = 0 ∧ (running base 1 0 0 []).a0 ≠ 0 := by decide +kernel

theorem witness_CtxCloneCopiesSlot :
    base.slots.length ≤ 4 ∧ (3 < base.slots.length ∧ base.slots[2]? = some Ctx.free ∧ Ctx.free.valid = false) ∧
    ((holding base squeezingCtx).slots[0]? = some squeezingCtx ∧ squeezingCtx.valid = true) := by decide +kernel

theorem witness_CtxResetRebuildsSlot :
    base.slots.length ≤ 4 ∧ (base.slots[3]? = some Ctx.free ∧ Ctx.free.valid = false) ∧
    ((holding base squeezingCtx).slots[0]? = some squeezingCtx ∧ squeezingCtx.valid = true) := by decide +kernel

theorem witness_CtxFreeClearsSlot : base.slots.length ≤ 4 ∧ 3 < base.slots.length := by decide

theorem witness_CtxStatusReportsFields :
    base.slots.length ≤ 4 ∧ (base.slots[3]? = some Ctx.free ∧ Ctx.free.valid = false) ∧
    ((holding base squeezingCtx).slots[0]? = some squeezingCtx ∧ squeezingCtx.valid = true ∧
      squeezingCtx.ib.length < 2 ^ 16) := by decide +kernel

theorem witness_EncBytepadEmitsPadding :
    (running base 0 0 0 []).a0 = 0 ∧ 2 ^ 32 < (running base (2 ^ 32 + 1) 0 0 []).a0.toNat ∧
    2 ^ 32 < (running base 1 (2 ^ 32 + 1) 0 []).a1.toNat ∧
    ((running base (2 ^ 32) (2 ^ 32) 0 []).a0 ≠ 0 ∧ (running base (2 ^ 32) (2 ^ 32) 0 []).a0.toNat ≤ 2 ^ 32 ∧
      (running base (2 ^ 32) (2 ^ 32) 0 []).a1.toNat ≤ 2 ^ 32 ∧
      (running base (2 ^ 32) (2 ^ 32) 0 []).dinTaken.length < (running base (2 ^ 32) (2 ^ 32) 0 []).a1.toNat) ∧
    ((running base 8 3 0 abc).dinTaken = abc ∧ abc.length = (running base 8 3 0 abc).a1.toNat) := by
  decide +kernel

theorem witness_DrbgNewCreatesInstance :
    active.drbg.dstate = .active ∧ (base.drbg.dstate ≠ .active ∧ base.a0 ≠ 128 ∧ base.a0 ≠ 256) ∧
    ((running base 256 31 0 []).a1.toNat < (64 : Byte).toNat / 2 ∧ (running base 256 31 0 []).a0 = 256) ∧
    2 ^ 32 < (running base 128 (2 ^ 32 + 1) 0 []).a1.toNat ∧
    ((32 : Byte).toNat / 2 ≤ (running base 128 16 0 []).a1.toNat ∧
      (running base 128 (2 ^ 32) 0 []).a1.toNat ≤ 2 ^ 32 ∧ (running base 128 16 0 []).dinTaken.length < 16) ∧
    ((running base 128 16 0 (zeros 16)).dinTaken = zeros 16 ∧
      (zeros 16).length = (running base 128 16 0 (zeros 16)).a1.toNat) := by
  decide +kernel

theorem witness_InactiveInstanceRejects :
    (base.drbg.dstate = .empty ∧ base.params.testMode = true) ∧
    ({ base with drbg := Drbg.destroyed } : State).drbg.dstate = .destroyed := by decide

theorem witness_DrbgReseedAbsorbsSeed :
    (base.drbg.good ∧ base.drbg.dstate = .empty) ∧ (Drbg.destroyed.good ∧ Drbg.destroyed.dstate = .destroyed) ∧
    (active.drbg.good ∧ active.drbg.dstate = .active) ∧
    (running active 31 0 0 []).a0.toNat < active.drbg.dseedlen.toNat / 2 ∧
    2 ^ 32 < (running active (2 ^ 32 + 1) 0 0 []).a0.toNat ∧
    (active.drbg.dseedlen.toNat / 2 ≤ (running active 32 0 0 (zeros 31)).a0.toNat ∧
      (running active 32 0 0 (zeros 31)).dinTaken.length < 32) ∧
    ((running active 32 0 0 (zeros 32)).dinTaken = zeros 32 ∧
      (zeros 32).length = (running active 32 0 0 (zeros 32)).a0.toNat) := by
  refine ⟨⟨?_, rfl⟩, ⟨?_, rfl⟩, ⟨?_, ?_⟩, ?_⟩ <;> decide +kernel

theorem witness_DrbgResetRebuildsFirst :
    (base.drbg.good ∧ base.drbg.dstate = .empty) ∧ (Drbg.destroyed.good ∧ Drbg.destroyed.dstate = .destroyed) ∧
    (active.drbg.good ∧ active.drbg.dstate = .active ∧
      newShake 136 = { active.drbg.dlive with lanes := Vector.replicate 25 0, cursor := 0, dir := .absorbing }) ∧
    (running active 31 0 0 []).a0.toNat < active.drbg.dseedlen.toNat / 2 ∧
    (active.drbg.dseedlen.toNat / 2 ≤ (running active 32 0 0 []).a0.toNat ∧
      (running active 32 0 0 []).dinTaken.length < 32) ∧
    ((running active 32 0 0 (zeros 32)).dinTaken = zeros 32 ∧
      (zeros 32).length = (running active 32 0 0 (zeros 32)).a0.toNat) := by
  refine ⟨⟨?_, rfl⟩, ⟨?_, rfl⟩, ⟨?_, ?_⟩, ?_⟩ <;> decide +kernel

theorem witness_DrbgGenerateRefusals :
    active.drbg.dstate = .active ∧
    2 ^ 48 < ({ activeDrbg with dcounter := 0x0001000000000001 } : Drbg).dcounter.toNat ∧
    ({ activeDrbg with dcounter := 0x0001000000000000 } : Drbg).dcounter.toNat ≤ 2 ^ 48 ∧
    (running active 0 0 0 []).a0 = 0 ∧ active.params.maxRequest < (running active (2 ^ 32 + 1) 0 0 []).a0.toNat ∧
    2 ^ 32 < (running active 1 (2 ^ 32 + 1) 0 []).a1.toNat ∧
    ((running active (2 ^ 32) 8 0 []).a0 ≠ 0 ∧ (running active (2 ^ 32) 8 0 []).a0.toNat ≤ active.params.maxRequest ∧
      (running active (2 ^ 32) 8 0 []).a1.toNat ≤ 2 ^ 32 ∧ (running active (2 ^ 32) 8 0 []).dinTaken.length < 8) := by
  decide +kernel

theorem witness_DrbgGenerateEmitsAndEvolves :
    ∃ (s : State) (add scratch : List Byte) (live squeezed fork : Ctx) (r k w : Nat) (nw : Reg),
      s.drbg.good ∧ s.drbg.dstate = .active ∧ s.drbg.dcounter.toNat ≤ 2 ^ 48 ∧ s.a0 ≠ 0 ∧
      s.a0.toNat ≤ s.params.maxRequest ∧ s.a1.toNat ≤ 2 ^ 32 ∧ s.dinTaken = add ∧
      add.length = s.a1.toNat ∧ r = s.drbg.drate.toNat ∧ k = (s.a0.toNat + r - 1) / r ∧
      live = absorbPadded s.params.perm s.drbg.dlive s.drbg.dnw add ∧
      nw = s.drbg.dnw + (if add = [] then 0 else 1) ∧
      live.squeeze s.params.perm ((k + 1) * r - 1) = (scratch, squeezed) ∧
      w = (deriveOffset scratch nw).toNat % ((k + 1) * r - 1 - 24) ∧
      fork = live.absorb s.params.perm
        ((0x1F :: List.replicate (r - 2) 0) ++ [0x80] ++ (List.replicate k (List.replicate r 0)).flatten) :=
  ⟨running active 150 8 0 testMe, testMe, _, _, _, _, _, _, _, _, by decide +kernel, rfl, by decide, by decide,
    by decide, by decide, rfl, rfl, rfl, rfl, rfl, rfl, Prod.mk.eta.symm, rfl, rfl⟩

theorem witness_DrbgDestroyClearsRegisters : active.drbg.dstate = .active ∧ base.drbg.dstate ≠ .active := by decide

theorem witness_DrbgNeedReseedPredictsRefusal :
    base.drbg.dstate = .empty ∧ Drbg.destroyed.dstate = .destroyed ∧ active.drbg.dstate = .active ∧
    2 ^ 48 < ({ activeDrbg with dcounter := 0x0001000000000001 } : Drbg).dcounter.toNat ∧
    ({ activeDrbg with dcounter := 0x0001000000000000 } : Drbg).dcounter.toNat ≤ 2 ^ 48 := by decide

theorem witness_DrbgReadFieldReadsRegisters :
    5 < (running base 6 0 0 []).a0.toNat ∧ (running base 0 0 0 []).a0 = 0 ∧ (running base 1 0 0 []).a0 = 1 ∧
    (running base 2 0 0 []).a0 = 2 ∧ (running base 3 0 0 []).a0 = 3 ∧ (running base 4 0 0 []).a0 = 4 ∧
    (running base 5 0 0 []).a0 = 5 := by decide

theorem witness_DrbgTestSetCounterNeedsStrap :
    ({ base with params := { Params.reference with testMode := false } } : State).params.testMode = false ∧
    (base.params.testMode = true ∧ base.drbg.dstate = .empty) ∧ Drbg.destroyed.dstate = .destroyed ∧
    (active.params.testMode = true ∧ active.drbg.dstate = .active) := by decide

theorem witness_DiagOffsetReportsOffset :
    2 ^ 32 < (running base 0 (2 ^ 32 + 1) 0 []).a1.toNat ∧
    ((running base 0 (2 ^ 32) 0 []).a1.toNat ≤ 2 ^ 32 ∧ (running base 0 (2 ^ 32) 0 []).dinTaken.length < 2 ^ 32) ∧
    ((running base 1 8 0 testMe).dinTaken = testMe ∧
      testMe.length = (running base 1 8 0 testMe).a1.toNat) := by decide +kernel

theorem witness_DiagRemixEmitsRemix :
    (running base 0 0 0 (zeros 24)).dinTaken.length < 25 ∧
    ((running base 0 0 0 (zeros 25)).dinTaken = zeros 25 ∧ (zeros 25).length = 25) := by decide +kernel

end Sys2Proof.Tests
end

section
/-! SUPPORT. Where an absorb and a squeeze leave the cursor, which contexts meet 10_state.md R28, and that every sponge operation
keeps it. -/

namespace Sys2Proof.Machine

variable (p : PermChoice) {c : Ctx}

/-! ### Cursors -/

/-- One absorbed byte moves the cursor on by one, mod RATE (40_sponge.md R67). -/
theorem Ctx.absorbByte_cursor (h : c.cursor.toNat < c.rate.toNat) (v : Byte) :
    (c.absorbByte p v).cursor.toNat = (c.cursor.toNat + 1) % c.rate.toNat := by
  simp only [Ctx.absorbByte]
  split
  · next full => simp [full]
  · next partly =>
    have hr : c.rate.toNat < 2 ^ 8 := c.rate.isLt
    have h1 : (c.cursor + 1).toNat = c.cursor.toNat + 1 := BitVec.toNat_add_of_lt (by simp; omega)
    rw [Nat.mod_eq_of_lt (by omega)]
    exact h1

/-- Absorbed bytes move the cursor on by their number, mod RATE (40_sponge.md R68). -/
theorem Ctx.absorb_cursor (h : c.cursor.toNat < c.rate.toNat) (d : List Byte) :
    (c.absorb p d).cursor.toNat = (c.cursor.toNat + d.length) % c.rate.toNat := by
  induction d generalizing c with
  | nil => simp [Nat.mod_eq_of_lt h]
  | cons v d ih =>
    have hv := Ctx.absorbByte_cursor p h v
    have hlt : (c.absorbByte p v).cursor.toNat < (c.absorbByte p v).rate.toNat := by
      rw [hv, Ctx.absorbByte_rate]; exact Nat.mod_lt _ (by omega)
    rw [Ctx.absorb_cons, ih hlt, hv, Ctx.absorbByte_rate, Nat.mod_add_mod, List.length_cons]
    congr 1; omega

theorem Ctx.absorb_cursor_lt (h : c.cursor.toNat < c.rate.toNat) (d : List Byte) :
    (c.absorb p d).cursor.toNat < c.rate.toNat := by
  rw [Ctx.absorb_cursor p h d]; exact Nat.mod_lt _ (by omega)

/-- The lazy permutation makes room for one more byte (40_sponge.md R70). -/
theorem Ctx.turnBlock_cursor_lt (h : c.cursor.toNat ≤ c.rate.toNat) (hr : 0 < c.rate.toNat) :
    (c.turnBlock p).cursor.toNat < c.rate.toNat := by
  simp only [Ctx.turnBlock]
  split
  · exact hr
  · next hne => exact lt_of_le_of_ne h fun e => hne (BitVec.eq_of_toNat_eq e)

/-- The squeeze loop leaves the cursor at most at RATE (40_sponge.md R70). -/
theorem Ctx.squeezeBytes_cursor_le (h : c.cursor.toNat ≤ c.rate.toNat) (hr : 0 < c.rate.toNat) (n : Nat) :
    (Ctx.squeezeBytes p n c).2.cursor.toNat ≤ c.rate.toNat := by
  induction n generalizing c with
  | zero => exact h
  | succ n ih =>
    obtain ⟨-, hrate, -, -, -⟩ := c.turnBlock_keeps p
    have hlt := Ctx.turnBlock_cursor_lt p h hr
    have hone : ((c.turnBlock p).cursor + 1).toNat = (c.turnBlock p).cursor.toNat + 1 :=
      BitVec.toNat_add_of_lt (by have := c.rate.isLt; simp; omega)
    have := ih (c := { c.turnBlock p with cursor := (c.turnBlock p).cursor + 1 })
      (by simp only [hone, hrate]; omega) (by simpa only [hrate] using hr)
    simpa only [Ctx.squeezeBytes, hrate] using this

/-! ### The invariant of one context -/

theorem Ctx.free_good : Ctx.free.good := ⟨nofun, nofun, nofun, fun _ => rfl⟩

theorem Ctx.good.rate_pos (h : c.good) (hv : c.valid = true) : 0 < c.rate.toNat := by
  obtain ⟨hf, -, -, -⟩ := h
  obtain ⟨hr | hr, -, -⟩ := hf hv <;> simp [hr]

/-- A valid context stays good when only LANES, CURSOR and DIR change and the cursor stays in its range. -/
theorem Ctx.good.of_keeps {c' : Ctx} {dir : Dir} (h : c.good) (hv : c.valid = true)
    (hk : c'.valid = c.valid ∧ c'.rate = c.rate ∧ c'.ds = c.ds ∧ c'.dir = dir ∧ c'.ib = c.ib)
    (ha : dir = .absorbing → c'.cursor.toNat < c.rate.toNat)
    (hs : dir = .squeezing → c'.cursor.toNat ≤ c.rate.toNat) : c'.good := by
  obtain ⟨kvalid, krate, kds, kdir, kib⟩ := hk
  obtain ⟨hf, -, -, -⟩ := h
  refine ⟨fun _ => ?_, fun _ => ?_, fun _ => ?_, fun h0 => ?_⟩
  · rw [krate, kds, kib]; exact hf hv
  · rw [kdir, krate]; exact ha
  · rw [kdir, krate]; exact hs
  · rw [kvalid, hv] at h0; cases h0

theorem Ctx.absorb_good (h : c.good) (hv : c.valid = true) (hd : c.dir = .absorbing) (d : List Byte) :
    (c.absorb p d).good := by
  obtain ⟨-, hcur, -, -⟩ := id h
  exact h.of_keeps hv (c.absorb_keeps p d) (fun _ => c.absorb_cursor_lt p (hcur hv hd) d) (by simp [hd])

theorem Ctx.squeeze_good (h : c.good) (hv : c.valid = true) (n : Nat) : (c.squeeze p n).2.good := by
  obtain ⟨-, -, hcur, -⟩ := id h
  refine h.of_keeps hv (c.squeeze_keeps p n) nofun fun _ => ?_
  rcases hd : c.dir with _ | _
  · simpa [Ctx.squeeze, hd] using
      Ctx.squeezeBytes_cursor_le p (c := c.finalize p) (by simp) (by simpa using h.rate_pos hv) n
  · simpa [Ctx.squeeze, hd] using Ctx.squeezeBytes_cursor_le p (hcur hv hd) (h.rate_pos hv) n

theorem Ctx.resetCtx_good (h : c.good) (hv : c.valid = true) (extra : Bool) : (c.resetCtx p extra).good := by
  refine h.of_keeps hv (c.resetCtx_keeps p extra) (fun _ => ?_) nofun
  have hr := h.rate_pos hv
  simp only [Ctx.resetCtx]
  split
  · exact hr
  · exact Ctx.absorb_cursor_lt p (c := { c with lanes := zeroLanes, cursor := 0, dir := .absorbing }) hr _

theorem newShake_good {r : Byte} (hr : r = 136 ∨ r = 168) : (newShake r).good := by
  refine ⟨fun _ => ⟨hr, .inl rfl, by simp [newShake]⟩, fun _ _ => ?_, by simp [newShake], by simp [newShake]⟩
  rcases hr with rfl | rfl <;> simp [newShake]

theorem newCshake_good {r : Byte} (hr : r = 136 ∨ r = 168) (extra : Bool) (n s : List Byte) :
    (newCshake p extra r n s).good := by
  simp only [newCshake]
  split
  · exact newShake_good hr
  · refine Ctx.absorb_good p ⟨fun _ => ⟨hr, .inr rfl, ?_⟩, fun _ _ => ?_, by simp, by simp⟩ rfl rfl _
    · simp [initBlock, leftEncode]
    · rcases hr with rfl | rfl <;> simp

/-! ### The bound on IB (10_state.md R27) -/

theorem byteCountFrom_le (v fuel n : Nat) : byteCountFrom v fuel n ≤ n + fuel := by
  induction fuel generalizing n with
  | zero => exact le_rfl
  | succ fuel ih =>
    have := ih (n + 1)
    simp only [byteCountFrom]
    split <;> omega

theorem leftEncode_length_le (v : Nat) : (leftEncode v).length ≤ 9 := by
  have : byteCount v ≤ 8 := byteCountFrom_le v 7 1
  simp [leftEncode, bigEndian]; omega

theorem initBlock_length_le (n s : List Byte) : (initBlock n s).length ≤ 18 + n.length + s.length := by
  have hn := leftEncode_length_le (8 * n.length)
  have hs := leftEncode_length_le (8 * s.length)
  simp only [initBlock, List.length_append]
  omega

theorem newCshake_ibFits (q : Params) {extra : Bool} {r : Byte} {n s : List Byte} (hn : n.length ≤ q.maxNsLen.val)
    (hs : s.length ≤ q.maxNsLen.val) : (newCshake p extra r n s).ibFits q := by
  have := initBlock_length_le n s
  simp only [Ctx.ibFits, newCshake]
  split
  · simp [newShake]
  · simp only [Ctx.absorb_ib]; omega

theorem Ctx.ibFits_of_ib_eq {q : Params} {c' : Ctx} (h : c.ibFits q) (he : c'.ib = c.ib) : c'.ibFits q := by
  rw [Ctx.ibFits, he]; exact h

end Sys2Proof.Machine
end
section
/-! SUPPORT. The live context of an active DRBG (10_state.md R32, R33), and that the DRBG's absorbs keep it at a rate
boundary. -/

namespace Sys2Proof.Machine

/-- A context an active DRBG can have as DLIVE between commands: plain, absorbing, at a rate boundary (10_state.md R32,
R33). -/
structure Ctx.Live (c : Ctx) (r : Byte) : Prop where
  valid : c.valid = true
  rate : c.rate = r
  ds : c.ds = 0x1F
  ib : c.ib = []
  dir : c.dir = .absorbing
  cursor : c.cursor = 0

variable (p : PermChoice) {c : Ctx} {r : Byte}

theorem newShake_live (r : Byte) : (newShake r).Live r := ⟨rfl, rfl, rfl, rfl, rfl, rfl⟩

/-- An absorb that ends at a rate boundary leaves a live context. -/
theorem Ctx.Live.of_absorb_cursor (h : c.Live r) {d : List Byte} (h0 : (c.absorb p d).cursor = 0) :
    (c.absorb p d).Live r := by
  obtain ⟨hvalid, hrate, hds, hdir, hib⟩ := c.absorb_keeps p d
  exact ⟨hvalid.trans h.valid, hrate.trans h.rate, hds.trans h.ds, hib.trans h.ib, hdir.trans h.dir, h0⟩

theorem Ctx.Live.absorb_cursor (h : c.Live r) (hr : 0 < r.toNat) (d : List Byte) :
    (c.absorb p d).cursor.toNat = d.length % r.toNat := by
  rw [Ctx.absorb_cursor p (by rw [h.cursor, h.rate]; exact hr), h.cursor, h.rate]
  simp

/-- Whole rate blocks bring the cursor back to 0. -/
theorem Ctx.Live.absorb (h : c.Live r) (hr : 0 < r.toNat) {d : List Byte} (hd : r.toNat ∣ d.length) :
    (c.absorb p d).Live r := by
  refine h.of_absorb_cursor p (BitVec.eq_of_toNat_eq ?_)
  rw [h.absorb_cursor p hr, Nat.mod_eq_zero_of_dvd hd]
  rfl

/-- Any bytes, and then zeros up to the next boundary, bring the cursor back to 0. -/
theorem Ctx.Live.absorb_to_boundary (h : c.Live r) (hr : 0 < r.toNat) (d : List Byte) :
    ((c.absorb p d).absorb p (zeros (r.toNat - (c.absorb p d).cursor.toNat))).Live r := by
  rw [← Ctx.absorb_append]
  refine h.absorb p hr ?_
  have hlt := Nat.mod_lt d.length hr
  rw [h.absorb_cursor p hr, List.length_append, zeros_length]
  refine ⟨d.length / r.toNat + 1, ?_⟩
  have := Nat.div_add_mod d.length r.toNat
  rw [Nat.mul_add]; omega

/-- PrePaddedAbsorb never fails on a live context, and leaves a live context (44_drbg_helpers.md R116, R120, R121). -/
theorem Ctx.Live.prePaddedAbsorb_keeps (h : c.Live r) (hr : 0 < r.toNat) (nw : Reg) (d : List Byte) :
    ∃ c' nw', prePaddedAbsorb p c nw d = some (c', nw') ∧ c'.Live r := by
  rcases eq_or_ne d [] with rfl | hd
  · exact ⟨c, nw, rfl, h⟩
  refine ⟨_, _, prePaddedAbsorb_absorbing h.dir nw hd, ?_⟩
  split
  · next h0 => exact h.of_absorb_cursor p h0
  · rw [h.rate]; exact h.absorb_to_boundary p hr _

/-- Steps 6 and 7 of Generate never fail on a live fork, and leave a live context (43_drbg.md R107, R116). -/
theorem Ctx.Live.evolveFork_keeps (h : c.Live r) (hr : 0 < r.toNat) (k : Nat) (ds : Byte) (nw : Reg) (scratch : List Byte) :
    ∃ c' nw', evolveFork p r.toNat k ds nw scratch c = some (c', nw') ∧ c'.Live r := by
  simp only [evolveFork, replayFork_absorbing h.dir]
  exact (h.absorb p hr (by simp)).prePaddedAbsorb_keeps p hr nw _

/-- ResetCtx leaves a live context (43_drbg.md R106). -/
theorem Ctx.Live.resetCtx (h : c.Live r) (extra : Bool) : (c.resetCtx p extra).Live r := by
  rw [Ctx.resetCtx_plain p c extra h.ib]
  exact ⟨h.valid, h.rate, h.ds, h.ib, rfl, rfl⟩

/-! ### The DRBG registers -/

variable {d : Drbg}

theorem Drbg.cleared_good : Drbg.cleared.good := by
  refine ⟨?_, ?_, nofun, fun _ => ⟨rfl, rfl, rfl, rfl, rfl, rfl⟩, rfl⟩ <;> simp [Drbg.cleared, Ctx.free]

theorem Drbg.destroyed_good : Drbg.destroyed.good := by
  refine ⟨?_, ?_, nofun, fun _ => ⟨rfl, rfl, rfl, rfl, rfl, rfl⟩, rfl⟩ <;> simp [Drbg.destroyed, Ctx.free]

/-- (DRATE, DSEEDLEN) of one of the two strengths (43_drbg.md R101). -/
def Drbg.profiled (d : Drbg) : Prop := (d.drate = 168 ∧ d.dseedlen = 32) ∨ (d.drate = 136 ∧ d.dseedlen = 64)

theorem Drbg.profiled.rate_pos (h : d.profiled) : 0 < d.drate.toNat := by
  rcases h with ⟨hr, -⟩ | ⟨hr, -⟩ <;> simp [hr]

/-- The register invariants of an active DRBG. -/
theorem Drbg.good_iff_of_active (ha : d.dstate = .active) :
    d.good ↔ d.profiled ∧ d.dhasctx = true ∧ d.dlive.Live d.drate ∧ d.dfork = Ctx.free := by
  constructor
  · rintro ⟨hctx, hvalid, hact, -, hfork⟩
    obtain ⟨hprof, hrate, hds, hib, hdir, hcursor⟩ := hact ha
    exact ⟨hprof, hctx.mp ha, ⟨hvalid.mp ha, hrate, hds, hib, hdir, hcursor⟩, hfork⟩
  · rintro ⟨hprof, hctx, hlive, hfork⟩
    exact ⟨by simp [ha, hctx], by simp [ha, hlive.valid],
      fun _ => ⟨hprof, hlive.rate, hlive.ds, hlive.ib, hlive.dir, hlive.cursor⟩, fun h => absurd ha h, hfork⟩

/-- An active DRBG stays good when its live context, DNW and DCOUNTER change and the live context stays one. -/
theorem Drbg.good.withLive (h : d.good) (ha : d.dstate = .active) {c : Ctx} (hc : c.Live d.drate) (nw n : Reg) :
    ({ d with dlive := c, dnw := nw, dcounter := n } : Drbg).good := by
  obtain ⟨hprof, hctx, -, hfork⟩ := (Drbg.good_iff_of_active ha).mp h
  exact (Drbg.good_iff_of_active (d := { d with dlive := c, dnw := nw, dcounter := n }) ha).mpr
    ⟨hprof, hctx, hc, hfork⟩

end Sys2Proof.Machine
end

section
/-! SUPPORT. What every command leaves alone, and what each phase it enters holds. -/

namespace Sys2Proof.Machine

/-! ### Frames -/

/-- Everything a command can do, as a case split on the next state. -/
theorem exec_next_does {i : Instr} {s t : State} (h : exec i s = .next t) : Does i s (.next t) := h ▸ exec_does i s

/-- A command changes PHASE, STS.ERR, STS.LASTOP, RESULT, slots and DRBG registers, and nothing else. -/
theorem exec_frame {i : Instr} {s t : State} (h : exec i s = .next t) :
    t = { s with phase := t.phase, err := t.err, lastOp := t.lastOp, result := t.result, slots := t.slots,
                 drbg := t.drbg } := by
  cases exec_next_does h with
  | rejects | rebuilds | waits | waitsRebuilt => rfl
  | ends slots drbg b done => rw [State.doutWrite_frame]; rfl

section Fields

variable {i : Instr} {s t : State}

theorem exec_params (h : exec i s = .next t) : t.params = s.params := by rw [exec_frame h]
theorem exec_cmd (h : exec i s = .next t) : t.cmd = s.cmd := by rw [exec_frame h]
theorem exec_arg0 (h : exec i s = .next t) : t.arg0 = s.arg0 := by rw [exec_frame h]
theorem exec_arg1 (h : exec i s = .next t) : t.arg1 = s.arg1 := by rw [exec_frame h]
theorem exec_arg2 (h : exec i s = .next t) : t.arg2 = s.arg2 := by rw [exec_frame h]
theorem exec_a0 (h : exec i s = .next t) : t.a0 = s.a0 := by rw [exec_frame h]
theorem exec_a1 (h : exec i s = .next t) : t.a1 = s.a1 := by rw [exec_frame h]
theorem exec_a2 (h : exec i s = .next t) : t.a2 = s.a2 := by rw [exec_frame h]
theorem exec_rst (h : exec i s = .next t) : t.rst = s.rst := by rw [exec_frame h]
theorem exec_dinOffer (h : exec i s = .next t) : t.dinOffer = s.dinOffer := by rw [exec_frame h]
theorem exec_doutReady (h : exec i s = .next t) : t.doutReady = s.doutReady := by rw [exec_frame h]
theorem exec_doutTaken (h : exec i s = .next t) : t.doutTaken = s.doutTaken := by rw [exec_frame h]
theorem exec_turns (h : exec i s = .next t) : t.turns = s.turns := by rw [exec_frame h]

end Fields

@[simp] theorem State.doutWrite_slots (s : State) (b : List Byte) (done : Completion) :
    (s.doutWrite b done).slots = s.slots := by rw [State.doutWrite_frame]

@[simp] theorem State.wrote_slots (s : State) (slots : List Ctx) (drbg : Drbg) :
    (s.wrote slots drbg).slots = slots := rfl

/-- A command leaves the slots, or rewrites its slot SA. -/
theorem exec_slots {i : Instr} {s t : State} (h : exec i s = .next t) :
    t.slots = s.slots ∨ ∃ c, t.slots = s.slots.set i.slotA c ∧ i.opcode.toNat < 0x10 := by
  cases exec_next_does h with
  | rejects | rebuilds | waits | waitsRebuilt => exact .inl rfl
  | ends slots drbg b done _ he => simpa using he.slots

theorem exec_slots_length {i : Instr} {s t : State} (h : exec i s = .next t) : t.slots.length = s.slots.length := by
  rcases exec_slots h with e | ⟨c, e, -⟩ <;> simp [e]

@[simp] theorem State.doutWrite_drbg (s : State) (b : List Byte) (done : Completion) :
    (s.doutWrite b done).drbg = s.drbg := by rw [State.doutWrite_frame]

@[simp] theorem State.wrote_drbg (s : State) (slots : List Ctx) (drbg : Drbg) : (s.wrote slots drbg).drbg = drbg := rfl

/-- Only a DRBG command changes a DRBG register. -/
theorem exec_drbg {i : Instr} {s t : State} (h : exec i s = .next t) :
    t.drbg = s.drbg ∨ 0x20 ≤ i.opcode.toNat ∧ i.opcode.toNat < 0x30 := by
  cases exec_next_does h with
  | rejects | waits => exact .inl rfl
  | rebuilds hi | waitsRebuilt _ hi => exact .inr (hi ▸ by decide)
  | ends slots drbg b done _ he => simpa using he.drbg

/-! ### Phases -/

/-- DoutWrite completes or offers a byte. -/
theorem State.doutWrite_phase (s : State) (b : List Byte) (done : Completion) :
    (s.doutWrite b done).phase = .idle ∨ b ≠ [] ∧ (s.doutWrite b done).phase = .dataOut b done := by
  rcases eq_or_ne b [] with rfl | hb
  · exact .inl rfl
  · exact .inr ⟨hb, by rw [State.doutWrite_offers hb]⟩

/-- After a command PHASE is IDLE, or DATA_IN for what is missing of its declared bytes, or DATA_OUT with a byte on offer. -/
theorem exec_phase {i : Instr} {s t : State} (h : exec i s = .next t) :
    (t.phase = .idle ∧ (t.err ≠ .ok ∨ declaredDin i s ≤ s.dinTaken.length)) ∨
    (s.dinTaken.length < declaredDin i s ∧
      t.phase = .dataIn s.dinTaken (declaredDin i s - s.dinTaken.length)) ∨
    (declaredDin i s ≤ s.dinTaken.length ∧ ∃ b done, b ≠ [] ∧ t.phase = .dataOut b done) := by
  cases exec_next_does h with
  | rejects e ne => exact .inl ⟨rfl, .inl ne⟩
  | rebuilds => exact .inl ⟨rfl, .inl (by simp)⟩
  | waits hl | waitsRebuilt hl => exact .inr (.inl ⟨hl, rfl⟩)
  | ends slots drbg b done hl =>
    rcases (s.wrote slots drbg).doutWrite_phase b done with e | ⟨hb, e⟩
    · exact .inl ⟨e, .inr hl⟩
    · exact .inr (.inr ⟨hl, b, done, hb, e⟩)

theorem declaredDin_eq {s t : State} (h0 : t.a0 = s.a0) (h1 : t.a1 = s.a1) (h2 : t.a2 = s.a2) (i : Instr) :
    declaredDin i t = declaredDin i s := by
  simp only [declaredDin, h0, h1, h2]

theorem State.phaseGood_of_idle {s : State} (h : s.phase = .idle) : s.phaseGood = true := by
  simp [State.phaseGood, h]

theorem State.phaseGood_of_dataOut {s : State} {rest : List Byte} {done : Completion}
    (h : s.phase = .dataOut rest done) : s.phaseGood = true ↔ rest ≠ [] := by
  simp [State.phaseGood, h]

theorem State.phaseGood_of_dataIn {s : State} {taken : List Byte} {need : Nat} (h : s.phase = .dataIn taken need) :
    s.phaseGood = true ↔ need ≠ 0 ∧ ∃ i, decode s.cmd = .ok i ∧ taken.length + need = declaredDin i s := by
  rcases hd : decode s.cmd with _ | i <;> simp [State.phaseGood, h, hd]

theorem State.phaseGood_of_exec {s : State} {taken : List Byte} (h : s.phase = .exec taken) :
    s.phaseGood = true ↔ taken = [] ∨ ∃ i, decode s.cmd = .ok i ∧ taken.length = declaredDin i s := by
  rcases hd : decode s.cmd with _ | i <;> simp [State.phaseGood, h, hd]

/-- The phase a command enters holds what it should. -/
theorem exec_phaseGood {i : Instr} {s t : State} (hi : decode s.cmd = .ok i) (h : exec i s = .next t) :
    t.phaseGood = true := by
  rcases exec_phase h with ⟨e, -⟩ | ⟨hl, e⟩ | ⟨-, b, done, hb, e⟩
  · exact State.phaseGood_of_idle e
  · refine (State.phaseGood_of_dataIn e).mpr ⟨by omega, i, by rw [exec_cmd h]; exact hi, ?_⟩
    have hdecl := declaredDin_eq (exec_a0 h) (exec_a1 h) (exec_a2 h) i
    omega
  · exact (State.phaseGood_of_dataOut e).mpr hb

end Sys2Proof.Machine
end
section
/-! SUPPORT. Every command keeps the slots and the DRBG registers good (10_state.md R27, R28, R32, R33). -/

namespace Sys2Proof.Machine

/-- What State.Inv asks of the slots and the DRBG registers. -/
structure State.Stored (s : State) : Prop where
  slots : ∀ c ∈ s.slots, c.good ∧ c.ibFits s.params
  drbg : s.drbg.good

variable {s : State} {op : Byte}

/-! ### One rule per operation -/

/-- Only the slots, the DRBG registers and the parameters matter. -/
theorem State.Stored.of_eq {t : State} (h : s.Stored) (hp : t.params = s.params) (hs : t.slots = s.slots)
    (hd : t.drbg = s.drbg) : t.Stored :=
  ⟨by rw [hs, hp]; exact h.slots, by rw [hd]; exact h.drbg⟩

theorem State.Stored.complete (h : s.Stored) (c : Completion) : (s.complete c).Stored := h.of_eq rfl rfl rfl

theorem State.Stored.doutWrite (h : s.Stored) (b : List Byte) (done : Completion) : (s.doutWrite b done).Stored := by
  rw [State.doutWrite_frame]; exact h.of_eq rfl rfl rfl

theorem State.Stored.dinRead {n : Nat} {k : List Byte → State → State} (h : s.Stored)
    (hk : ∀ d, d.length = n → (k d s).Stored) : (s.dinRead n k).Stored := by
  rcases s.dinRead_cases n k with ⟨hl, e⟩ | ⟨-, e⟩ <;> rw [e]
  · exact hk _ (List.length_take_of_le hl)
  · exact h.of_eq rfl rfl rfl

theorem State.Stored.setSlot (h : s.Stored) (i : Nat) {c : Ctx} (hc : c.good) (hf : c.ibFits s.params) :
    (s.setSlot i c).Stored := by
  refine ⟨fun c' hc' => ?_, h.drbg⟩
  rcases List.mem_or_eq_of_mem_set hc' with hmem | rfl
  · exact h.slots c' hmem
  · exact ⟨hc, hf⟩

theorem State.Stored.withDrbg (h : s.Stored) {d : Drbg} (hd : d.good) : State.Stored { s with drbg := d } :=
  ⟨h.slots, hd⟩

theorem State.Stored.withSlot {i : Nat} {k : Ctx → State} (h : s.Stored)
    (hk : ∀ c, c.good → c.ibFits s.params → (k c).Stored) : (s.withSlot op i k).Stored := by
  rcases hc : s.slots[i]? with _ | c
  · rw [State.withSlot_none (by simpa using hc)]; exact h.of_eq rfl rfl rfl
  · rw [State.withSlot_some hc]
    obtain ⟨hg, hf⟩ := h.slots c (List.mem_of_getElem? hc)
    exact hk c hg hf

theorem State.Stored.withBuiltSlot {i : Nat} {k : Ctx → State} (h : s.Stored)
    (hk : ∀ c, c.good → c.ibFits s.params → c.valid = true → (k c).Stored) : (s.withBuiltSlot op i k).Stored := by
  refine h.withSlot fun c hg hf => ?_
  split
  · next hv => exact hk c hg hf hv
  · exact h.complete _

theorem State.Stored.withActive {k : State} (h : s.Stored) (hk : s.drbg.dstate = .active → k.Stored) :
    (s.withActive op k).Stored := by
  rcases hd : s.drbg.dstate with _ | _ | _
  · rw [State.withActive_empty hd]; exact h.of_eq rfl rfl rfl
  · rw [State.withActive_active hd]; exact hk hd
  · rw [State.withActive_destroyed hd]; exact h.of_eq rfl rfl rfl

/-! ### The operands -/

theorem rateOfLevel_rate {a : Reg} {r : Byte} (h : rateOfLevel a = some r) : r = 136 ∨ r = 168 := by
  simp only [rateOfLevel] at h
  split_ifs at h <;> simp_all

theorem profileOfStrength_profile {a : Reg} {r sl : Byte} (h : profileOfStrength a = some (r, sl)) :
    (r = 168 ∧ sl = 32) ∨ (r = 136 ∧ sl = 64) := by
  simp only [profileOfStrength] at h
  split_ifs at h <;> simp_all

/-! ### The DRBG's own operations -/

/-- Absorbing a seed into an active DRBG. -/
theorem State.Stored.absorbSeed (h : s.Stored) (ha : s.drbg.dstate = .active) (seed : List Byte) :
    (s.absorbSeed op seed).Stored := by
  obtain ⟨hprof, -, hlive, -⟩ := (Drbg.good_iff_of_active ha).mp h.drbg
  obtain ⟨c, nw, e, hc⟩ := hlive.prePaddedAbsorb_keeps s.params.perm hprof.rate_pos s.drbg.dnw seed
  simp only [State.absorbSeed, e]
  exact (h.withDrbg (h.drbg.withLive ha hc nw 0)).complete _

theorem State.Stored.rebuildLive (h : s.Stored) (ha : s.drbg.dstate = .active) : s.rebuildLive.Stored := by
  obtain ⟨-, -, hlive, -⟩ := (Drbg.good_iff_of_active ha).mp h.drbg
  exact h.withDrbg (h.drbg.withLive ha (hlive.resetCtx _ _) _ _)

/-- Steps 3 to 8 of Generate: neither absorb fails, the evolved fork becomes the live context, and the fork is zeroed. -/
theorem State.Stored.runGenerate (h : s.Stored) (ha : s.drbg.dstate = .active) (add : List Byte) :
    (s.runGenerate op add).Stored := by
  obtain ⟨hprof, -, hlive, hfork⟩ := (Drbg.good_iff_of_active ha).mp h.drbg
  obtain ⟨live, nw, e, hl⟩ := hlive.prePaddedAbsorb_keeps s.params.perm hprof.rate_pos s.drbg.dnw add
  simp only [State.runGenerate, e, Ctx.clone_eq, Ctx.zeroize_eq]
  split
  · next hnone =>
    obtain ⟨c, nw1, e1, -⟩ := hl.evolveFork_keeps s.params.perm hprof.rate_pos _ _ _ _
    rw [e1] at hnone; cases hnone
  · next next nw1 hsome =>
    obtain ⟨c, nw2, e1, hc⟩ := hl.evolveFork_keeps s.params.perm hprof.rate_pos _ _ _ _
    rw [e1] at hsome; cases hsome
    refine (h.withDrbg ?_).doutWrite _ _
    rw [← hfork]
    exact h.drbg.withLive ha hc _ _

/-! ### Every command -/

theorem exec_stored {i : Instr} {t : State} (h : s.Stored) (he : exec i s = .next t) : t.Stored := by
  cases i with
  | ctxShake sa =>
    cases he
    refine h.withSlot fun _ _ _ => ?_
    split
    · exact h.complete _
    · next r hr => exact (h.setSlot sa (newShake_good (rateOfLevel_rate hr)) (Nat.zero_le _)).complete _
  | ctxCshake sa =>
    cases he
    refine h.withSlot fun _ _ _ => ?_
    split
    · exact h.complete _
    · next r hr =>
      split
      · exact h.complete _
      · next hlen =>
        refine h.dinRead fun d hd => (h.setSlot sa (newCshake_good _ (rateOfLevel_rate hr) _ _ _)
          (newCshake_ibFits _ _ ?_ ?_)).complete _ <;>
        · simp; omega
  | ctxAbsorb sa =>
    cases he
    refine h.withBuiltSlot fun c hg hf hv => ?_
    split
    · exact h.complete _
    · next hd =>
      exact h.dinRead fun d _ =>
        (h.setSlot sa (Ctx.absorb_good _ hg hv hd d) (Ctx.ibFits_of_ib_eq hf (by simp))).complete _
  | ctxSqueeze sa =>
    cases he
    refine h.withBuiltSlot fun c hg hf hv => ?_
    obtain ⟨-, -, -, -, hib⟩ := c.squeeze_keeps s.params.perm s.a0.toNat
    exact (h.setSlot sa (Ctx.squeeze_good _ hg hv _) (Ctx.ibFits_of_ib_eq hf hib)).doutWrite _ _
  | ctxClone dst src =>
    cases he
    refine h.withSlot fun _ _ _ => h.withBuiltSlot fun c hg hf _ => ?_
    split
    · exact h.complete _
    · exact (h.setSlot dst hg hf).complete _
  | ctxReset sa =>
    cases he
    refine h.withBuiltSlot fun c hg hf hv => ?_
    obtain ⟨-, -, -, -, hib⟩ := c.resetCtx_keeps s.params.perm s.params.bytepadExtraAligned
    exact (h.setSlot sa (Ctx.resetCtx_good _ hg hv _) (Ctx.ibFits_of_ib_eq hf hib)).complete _
  | ctxFree sa =>
    cases he
    exact h.withSlot fun c _ _ => (h.setSlot sa Ctx.free_good (Nat.zero_le _)).complete _
  | ctxStatus sa => cases he; exact h.withSlot fun c _ _ => h.complete _
  | encLeft => cases he; exact h.doutWrite _ _
  | encBytepad =>
    cases he
    split_ifs
    · exact h.complete _
    · exact h.complete _
    · exact h.dinRead fun x _ => h.doutWrite _ _
  | drbgNew =>
    cases he
    split
    · exact h.complete _
    · next hna =>
      split
      · exact h.complete _
      · next r sl hr =>
        split
        · refine h.dinRead fun seed _ => State.Stored.absorbSeed (h.withDrbg ?_) rfl seed
          obtain ⟨-, -, -, -, hfork⟩ := h.drbg
          exact (Drbg.good_iff_of_active rfl).mpr ⟨profileOfStrength_profile hr, rfl, newShake_live r, hfork⟩
        · exact h.complete _
  | drbgGenerate =>
    cases he
    refine h.withActive fun ha => ?_
    split_ifs
    · exact h.complete _
    · exact h.complete _
    · exact h.dinRead fun add _ => h.runGenerate ha add
  | drbgReseed =>
    cases he
    refine h.withActive fun ha => ?_
    split_ifs
    · exact h.dinRead fun seed _ => h.absorbSeed ha seed
    · exact h.complete _
  | drbgReset =>
    cases he
    refine h.withActive fun ha => ?_
    have hl := h.rebuildLive ha
    split_ifs
    · exact hl.dinRead fun seed _ => hl.absorbSeed ha seed
    · exact hl.complete _
  | drbgDestroy =>
    cases he
    split
    · exact (h.withDrbg Drbg.destroyed_good).complete _
    · exact h.complete _
    · exact h.complete _
  | drbgNeedReseed => cases he; exact h.withActive fun _ => h.complete _
  | drbgReadField =>
    cases he
    split
    · exact h.complete _
    · exact h.complete _
  | drbgTestSetCounter =>
    cases he
    split_ifs
    · refine h.withActive fun ha => (h.withDrbg ?_).complete _
      obtain ⟨-, -, hlive, -⟩ := (Drbg.good_iff_of_active ha).mp h.drbg
      exact h.drbg.withLive ha hlive _ _
    · exact h.complete _
  | diagOffset =>
    cases he
    split_ifs
    · exact h.complete _
    · exact h.dinRead fun d _ => h.complete _
  | diagRemix => cases he; exact h.dinRead fun w _ => h.doutWrite _ _

end Sys2Proof.Machine
end

section
/-! SUPPORT. The invariant of the whole machine, move by move. -/

namespace Sys2Proof.Machine

variable {s t : State}

theorem State.Inv.stored (h : s.Inv) : s.Stored := ⟨h.slotsGood, h.drbgGood⟩

/-- With RST released the invariant is that of the slots, the DRBG registers and the phase. -/
theorem State.Inv.of_released (hr : t.rst = false) (hc : 1 ≤ t.slots.length ∧ t.slots.length ≤ 16) (hs : t.Stored)
    (hp : t.phaseGood = true) : t.Inv :=
  ⟨hc, hs.slots, hs.drbg, hp, fun h => by rw [hr] at h; cases h⟩

/-- With RST released a move that leaves the slots, the DRBG registers and the parameters has only its phase to answer for. -/
theorem State.Inv.of_phase (h : s.Inv) (hr : t.rst = false) (hparams : t.params = s.params) (hslots : t.slots = s.slots)
    (hdrbg : t.drbg = s.drbg) (hp : t.phaseGood = true) : t.Inv :=
  .of_released hr (by rw [hslots]; exact h.slotCount) (h.stored.of_eq hparams hslots hdrbg) hp

/-- The host's own fields do not matter. -/
theorem State.Inv.withHostSide (h : s.Inv) (offer : List Byte) (ready : Nat) (ts : List Turn) :
    State.Inv { s with dinOffer := offer, doutReady := ready, turns := ts } :=
  ⟨h.slotCount, h.slotsGood, h.drbgGood, h.phaseGood, fun hr =>
    congrArg (fun u : State => { u with dinOffer := offer, doutReady := ready, turns := ts }) (h.rstGood hr)⟩

/-! ### Reset -/

theorem State.resetWith_inv {n : Nat} (hn : 1 ≤ n ∧ n ≤ 16) (p : Params) : (State.resetWith n p).Inv := by
  refine .of_released rfl (by simpa [State.resetWith] using hn) ⟨fun c hc => ?_, Drbg.cleared_good⟩ rfl
  obtain rfl : c = Ctx.free := List.eq_of_mem_replicate hc
  exact ⟨Ctx.free_good, Nat.zero_le _⟩

theorem Config.nctx_range : 1 ≤ Config.nctx ∧ Config.nctx ≤ 16 :=
  ⟨Nat.le_add_left _ _, Config.nctxLessOne.isLt⟩

/-- Asserting RST gives reset values, and asserting it again changes nothing. -/
theorem State.Inv.assertRst (h : s.Inv) : s.assertRst.Inv := by
  obtain ⟨hcount, hslots, hdrbg, hphase, -⟩ := State.resetWith_inv h.slotCount s.params
  exact ⟨hcount, hslots, hdrbg, hphase, fun _ => by simp [State.assertRst, State.resetWith]⟩

/-! ### The engine -/

theorem State.Inv.exec {i : Instr} (h : s.Inv) (hr : s.rst = false) (hi : decode s.cmd = .ok i)
    (he : exec i s = .next t) : t.Inv :=
  .of_released ((exec_rst he).trans hr) (by rw [exec_slots_length he]; exact h.slotCount)
    (exec_stored h.stored he) (exec_phaseGood hi he)

theorem State.Inv.runCommand (h : s.Inv) (hr : s.rst = false) (he : s.runCommand = .next t) : t.Inv := by
  simp only [State.runCommand] at he
  split at he
  · next i hi => exact h.exec hr hi he
  · cases he; exact h.of_phase hr rfl rfl rfl rfl

/-- In DATA_IN the count of taken and missing bytes stays the declared one. -/
theorem State.Inv.dinTransfer {taken : List Byte} {need : Nat} (h : s.Inv) (hr : s.rst = false)
    (hp : s.phase = .dataIn taken need) : (s.dinTransfer taken need).Inv := by
  obtain ⟨-, i, hi, hcount⟩ := (State.phaseGood_of_dataIn hp).mp h.phaseGood
  rcases s.dinTransfer_cases taken need with ⟨d, rest, -, hd, e⟩ | ⟨hlt, e⟩ <;> rw [e]
  · refine h.of_phase hr rfl rfl rfl ((State.phaseGood_of_exec rfl).mpr (.inr ⟨i, hi, ?_⟩))
    rw [List.length_append, hd]; exact hcount
  · refine h.of_phase hr rfl rfl rfl ((State.phaseGood_of_dataIn rfl).mpr ⟨by omega, i, hi, ?_⟩)
    refine Eq.trans ?_ hcount
    rw [List.length_append]; omega

/-- In DATA_OUT a byte stays on offer until the command completes. -/
theorem State.Inv.doutTransfer (h : s.Inv) (hr : s.rst = false) (rest : List Byte) (done : Completion) :
    (s.doutTransfer rest done).Inv := by
  rcases s.doutTransfer_cases rest done with ⟨-, e⟩ | ⟨hlt, e⟩ <;> rw [e]
  · exact h.of_phase hr rfl rfl rfl rfl
  · refine h.of_phase hr rfl rfl rfl ((State.phaseGood_of_dataOut rfl).mpr ?_)
    simpa using hlt

theorem State.Inv.engineMove (h : s.Inv) (he : s.engineMove = .next t) : t.Inv := by
  rcases s.engineMove_cases with ⟨-, e⟩ | ⟨hr, -, e⟩ | ⟨hr, taken, need, hp, e⟩ | ⟨hr, rest, done, -, e⟩ <;>
    rw [e] at he
  · cases he; exact h
  · exact h.runCommand hr he
  · cases he; exact h.dinTransfer hr hp
  · cases he; exact h.doutTransfer hr rest done

/-! ### The host -/

theorem State.Inv.writeCmd (h : s.Inv) (hr : s.rst = false) (w : CmdWord) : (s.writeCmd w).Inv := by
  simp only [State.writeCmd]
  split
  · exact h
  · exact h.of_phase hr rfl rfl rfl rfl

/-- A write to ARGn reaches no latch, so the declared byte count stays. -/
theorem State.Inv.writeArg (h : s.Inv) (hr : s.rst = false) (n : Fin 3) (v : Reg) : (s.writeArg n v).Inv := by
  match n with
  | 0 | 1 | 2 => exact h.of_phase hr rfl rfl rfl h.phaseGood

theorem State.Inv.hostMove (h : s.Inv) (a : HostAction) : (s.hostMove a).Inv := by
  cases a with
  | writeCmd w =>
    rcases hr : s.rst with _ | _
    · simpa [State.hostMove, hr] using h.writeCmd hr w
    · simpa [State.hostMove, hr] using h
  | writeArg n v =>
    rcases hr : s.rst with _ | _
    · simpa [State.hostMove, hr] using h.writeArg hr n v
    · simpa [State.hostMove, hr] using h
  | readReg r => exact h
  | offerDin bytes => exact h.withHostSide _ _ _
  | takeDout n => exact h.withHostSide _ _ _
  | setRst level =>
    rcases level with _ | _
    · exact h.of_phase rfl rfl rfl rfl h.phaseGood
    · exact h.assertRst

theorem State.Inv.step (h : s.Inv) (he : step s = .next t) : t.Inv := by
  rcases step_cases s with ⟨a, ts, -, e⟩ | ⟨-, e⟩ <;> rw [e] at he
  · cases he; exact (h.withHostSide _ _ ts).hostMove a
  · exact (h.withHostSide _ _ s.turns.tail).engineMove he

/-- Settles O13: move by move, with the slots and registers of every command, its phase, and RST. -/
theorem stepKeepsInvariant : Obligations.StepKeepsInvariant := fun _ _ h he => h.step he

/-- Settles O12, for every NCTX and every choice of the parameters. -/
theorem resetMeetsInvariant : Obligations.ResetMeetsInvariant := State.resetWith_inv Config.nctx_range Config.params

end Sys2Proof.Machine
end

section
/-! SUPPORT. Updates of the state that a command does not see: it does the same after the update as before it. Each operation of
a command's life cycle has its rule, and the commands are put together from them. -/

namespace Sys2Proof.Machine

/-- An update that keeps all that command `i` reads, and that commutes with all that it writes. -/
structure Unseen (i : Instr) (f : State → State) : Prop where
  params : ∀ s, (f s).params = s.params
  a0 : ∀ s, (f s).a0 = s.a0
  a1 : ∀ s, (f s).a1 = s.a1
  a2 : ∀ s, (f s).a2 = s.a2
  phase : ∀ s, (f s).phase = s.phase
  slot : ∀ j ∈ i.slotFields, ∀ s, (f s).slots[j]? = s.slots[j]?
  drbg : 0x20 ≤ i.opcode.toNat ∧ i.opcode.toNat < 0x30 → ∀ s, (f s).drbg = s.drbg
  complete : ∀ s c, (f s).complete c = f (s.complete c)
  withPhase : ∀ s ph, ({ f s with phase := ph } : State) = f { s with phase := ph }
  setSlot : ∀ j ∈ i.slotFields, ∀ s c, (f s).setSlot j c = f (s.setSlot j c)
  withDrbg : 0x20 ≤ i.opcode.toNat ∧ i.opcode.toNat < 0x30 →
    ∀ s d, ({ f s with drbg := d } : State) = f { s with drbg := d }

/-! ### One rule per operation -/

section Rules

variable {i : Instr} {f : State → State} {s : State} {op : Byte}

/-- A check whose outcome the update does not change. -/
theorem ite_unseen {c' c : Prop} [Decidable c'] [Decidable c] {x' y' x y : State} (hc : c' ↔ c) (hx : x' = f x)
    (hy : y' = f y) : (if c' then x' else y') = f (if c then x else y) := by
  rw [apply_ite f, hx, hy]; exact if_congr hc rfl rfl

/-- A command's answer after the update, from its answer before. -/
theorem next_unseen {x' x : State} (h : x' = f x) :
    ∃ t, (.next x : Host.Outcome State Fault Refusal) = .next t ∧
      (.next x' : Host.Outcome State Fault Refusal) = .next (f t) :=
  ⟨x, rfl, congrArg _ h⟩

theorem Unseen.dinTaken (hf : Unseen i f) : (f s).dinTaken = s.dinTaken := by
  simp only [State.dinTaken, hf.phase]

theorem Unseen.dinRead (hf : Unseen i f) {n' n : Nat} {k' k : List Byte → State → State} (hn : n' = n)
    (hk : ∀ d, k' d (f s) = f (k d s)) : (f s).dinRead n' k' = f (s.dinRead n k) := by
  subst hn
  simp only [State.dinRead, hf.dinTaken]
  exact ite_unseen Iff.rfl (hk _) (hf.withPhase s _)

theorem Unseen.doutWrite (hf : Unseen i f) (b : List Byte) (done : Completion) :
    (f s).doutWrite b done = f (s.doutWrite b done) :=
  ite_unseen Iff.rfl (hf.complete s done) (hf.withPhase s _)

theorem Unseen.withSlot (hf : Unseen i f) {j : Nat} {k' k : Ctx → State} (hj : j ∈ i.slotFields)
    (hk : ∀ c, k' c = f (k c)) : (f s).withSlot op j k' = f (s.withSlot op j k) := by
  simp only [State.withSlot, State.slot_eq, hf.slot j hj]
  split
  · exact hf.complete s _
  · exact hk _

theorem Unseen.withBuiltSlot (hf : Unseen i f) {j : Nat} {k' k : Ctx → State} (hj : j ∈ i.slotFields)
    (hk : ∀ c, k' c = f (k c)) : (f s).withBuiltSlot op j k' = f (s.withBuiltSlot op j k) :=
  hf.withSlot hj fun c => ite_unseen Iff.rfl (hk c) (hf.complete s _)

section Engine

variable (hf : Unseen i f) (hd : 0x20 ≤ i.opcode.toNat ∧ i.opcode.toNat < 0x30)
include hf hd

theorem Unseen.withActive {k' k : State} (hk : k' = f k) : (f s).withActive op k' = f (s.withActive op k) := by
  simp only [State.withActive, hf.drbg hd]
  split
  · exact hf.complete s _
  · exact hf.complete s _
  · exact hk

theorem Unseen.destroyDrbg : (f s).destroyDrbg = f s.destroyDrbg := hf.withDrbg hd s _

theorem Unseen.rebuildLive : (f s).rebuildLive = f s.rebuildLive := by
  have := hf.withDrbg hd s s.rebuildLive.drbg
  simpa only [State.rebuildLive, hf.drbg hd, hf.params] using this

theorem Unseen.absorbSeed (seed : List Byte) : (f s).absorbSeed op seed = f (s.absorbSeed op seed) := by
  have hp : (f s).params.perm = s.params.perm := congrArg _ (hf.params s)
  simp only [State.absorbSeed, hp, hf.drbg hd]
  split
  · rw [hf.destroyDrbg hd]; exact hf.complete _ _
  · rw [hf.withDrbg hd]; exact hf.complete _ _

theorem Unseen.runGenerate (add : List Byte) : (f s).runGenerate op add = f (s.runGenerate op add) := by
  have hp : (f s).params.perm = s.params.perm := congrArg _ (hf.params s)
  have ha : (f s).a0.toNat = s.a0.toNat := congrArg _ (hf.a0 s)
  simp only [State.runGenerate, hp, ha, hf.drbg hd]
  split
  · rw [hf.destroyDrbg hd]; exact hf.complete _ _
  · split
    · rw [hf.withDrbg hd, hf.destroyDrbg hd]; exact hf.doutWrite _ _
    · rw [hf.withDrbg hd]; exact hf.doutWrite _ _

end Engine

end Rules

/-! ### Every command -/

/-- A command does the same after an update it does not see. -/
theorem exec_next_unseen {i : Instr} {f : State → State} (hf : Unseen i f) (s : State) :
    ∃ t, exec i s = .next t ∧ exec i (f s) = .next (f t) := by
  have ha0 : (f s).a0.toNat = s.a0.toNat := congrArg _ (hf.a0 s)
  have ha1 : (f s).a1.toNat = s.a1.toNat := congrArg _ (hf.a1 s)
  cases i with
  | ctxShake sa =>
    refine next_unseen (hf.withSlot (.head _) fun _ => ?_)
    rw [hf.a0]
    split
    · exact hf.complete s _
    · rw [hf.setSlot sa (.head _)]; exact hf.complete _ _
  | ctxCshake sa =>
    refine next_unseen (hf.withSlot (.head _) fun _ => ?_)
    rw [hf.a0, hf.a1, hf.a2, hf.params]
    split
    · exact hf.complete s _
    · refine ite_unseen Iff.rfl (hf.complete s _) (hf.dinRead rfl fun d => ?_)
      rw [hf.setSlot sa (.head _)]; exact hf.complete _ _
  | ctxAbsorb sa =>
    refine next_unseen (hf.withBuiltSlot (.head _) fun c => ?_)
    rw [hf.params]
    split
    · exact hf.complete s _
    · refine hf.dinRead ha0 fun d => ?_
      rw [hf.setSlot sa (.head _)]; exact hf.complete _ _
  | ctxSqueeze sa =>
    refine next_unseen (hf.withBuiltSlot (.head _) fun c => ?_)
    rw [hf.a0, hf.params]
    dsimp only
    rw [hf.setSlot sa (.head _)]
    exact hf.doutWrite _ _
  | ctxClone dst src =>
    refine next_unseen (hf.withSlot (.head _) fun _ => hf.withBuiltSlot (.tail _ (.head _)) fun c =>
      ite_unseen Iff.rfl (hf.complete s _) ?_)
    rw [hf.setSlot dst (.head _)]; exact hf.complete _ _
  | ctxReset sa =>
    refine next_unseen (hf.withBuiltSlot (.head _) fun c => ?_)
    rw [hf.params, hf.setSlot sa (.head _)]
    exact hf.complete _ _
  | ctxFree sa =>
    refine next_unseen (hf.withSlot (.head _) fun c => ?_)
    rw [hf.setSlot sa (.head _)]; exact hf.complete _ _
  | ctxStatus sa => exact next_unseen (hf.withSlot (.head _) fun c => hf.complete s _)
  | encLeft =>
    refine next_unseen ?_
    rw [hf.a0]; exact hf.doutWrite _ _
  | encBytepad =>
    refine next_unseen ?_
    rw [hf.a0, hf.a1, hf.params]
    exact ite_unseen Iff.rfl (hf.complete s _) (ite_unseen Iff.rfl (hf.complete s _)
      (hf.dinRead rfl fun x => hf.doutWrite _ _))
  | drbgNew =>
    have hd : 0x20 ≤ Instr.drbgNew.opcode.toNat ∧ Instr.drbgNew.opcode.toNat < 0x30 := by decide
    have hprof : profileOfStrength (f s).a0 = profileOfStrength s.a0 := congrArg _ (hf.a0 s)
    refine next_unseen (ite_unseen (by rw [hf.drbg hd]) (hf.complete s _) ?_)
    rw [hprof]
    split
    · exact hf.complete s _
    · refine ite_unseen (by rw [ha1]) (hf.dinRead ha1 fun seed => ?_) (hf.complete s _)
      rw [hf.drbg hd, hf.withDrbg hd]
      exact hf.absorbSeed hd seed
  | drbgGenerate =>
    have hd : 0x20 ≤ Instr.drbgGenerate.opcode.toNat ∧ Instr.drbgGenerate.opcode.toNat < 0x30 := by decide
    refine next_unseen (hf.withActive hd ?_)
    rw [hf.drbg hd, hf.a0, hf.a1, hf.params]
    exact ite_unseen Iff.rfl (hf.complete s _) (ite_unseen Iff.rfl (hf.complete s _)
      (hf.dinRead rfl fun add => hf.runGenerate hd add))
  | drbgReseed =>
    have hd : 0x20 ≤ Instr.drbgReseed.opcode.toNat ∧ Instr.drbgReseed.opcode.toNat < 0x30 := by decide
    refine next_unseen (hf.withActive hd ?_)
    rw [hf.drbg hd, hf.a0]
    exact ite_unseen Iff.rfl (hf.dinRead rfl fun seed => hf.absorbSeed hd seed) (hf.complete s _)
  | drbgReset =>
    have hd : 0x20 ≤ Instr.drbgReset.opcode.toNat ∧ Instr.drbgReset.opcode.toNat < 0x30 := by decide
    refine next_unseen (hf.withActive hd ?_)
    rw [hf.drbg hd, hf.a0, hf.rebuildLive hd]
    exact ite_unseen Iff.rfl (hf.dinRead rfl fun seed => hf.absorbSeed hd seed) (hf.complete _ _)
  | drbgDestroy =>
    have hd : 0x20 ≤ Instr.drbgDestroy.opcode.toNat ∧ Instr.drbgDestroy.opcode.toNat < 0x30 := by decide
    refine next_unseen ?_
    rw [hf.drbg hd, hf.destroyDrbg hd]
    split
    · exact hf.complete _ _
    · exact hf.complete s _
    · exact hf.complete s _
  | drbgNeedReseed =>
    have hd : 0x20 ≤ Instr.drbgNeedReseed.opcode.toNat ∧ Instr.drbgNeedReseed.opcode.toNat < 0x30 := by decide
    refine next_unseen (hf.withActive hd ?_)
    rw [hf.drbg hd]; exact hf.complete s _
  | drbgReadField =>
    have hd : 0x20 ≤ Instr.drbgReadField.opcode.toNat ∧ Instr.drbgReadField.opcode.toNat < 0x30 := by decide
    refine next_unseen ?_
    rw [hf.drbg hd, hf.a0]
    split
    · exact hf.complete s _
    · exact hf.complete s _
  | drbgTestSetCounter =>
    have hd : 0x20 ≤ Instr.drbgTestSetCounter.opcode.toNat ∧ Instr.drbgTestSetCounter.opcode.toNat < 0x30 := by decide
    refine next_unseen (ite_unseen (by rw [hf.params]) (hf.withActive hd ?_) (hf.complete s _))
    rw [hf.drbg hd, hf.withDrbg hd, hf.a0]
    exact hf.complete _ _
  | diagOffset =>
    refine next_unseen ?_
    rw [hf.a0, hf.a1]
    exact ite_unseen Iff.rfl (hf.complete s _) (hf.dinRead rfl fun d => hf.complete s _)
  | diagRemix => exact next_unseen (hf.dinRead rfl fun w => hf.doutWrite _ _)

theorem exec_unseen {i : Instr} {f : State → State} (hf : Unseen i f) {s t : State} (h : exec i s = .next t) :
    exec i (f s) = .next (f t) := by
  obtain ⟨t', e, e'⟩ := exec_next_unseen hf s
  rw [h] at e
  cases e
  exact e'

/-! ### The updates -/

/-- No command reads or writes ARG0 to ARG2 (10_state.md R22). -/
theorem unseen_writeArg (i : Instr) (n : Fin 3) (v : Reg) : Unseen i (State.writeArg · n v) := by
  match n with
  | 0 | 1 | 2 => constructor <;> intros <;> rfl

/-- No command reads or writes a slot its word does not name (10_state.md R29). -/
theorem unseen_setSlot {i : Instr} {j : Nat} (hj : j ∉ i.slotFields) (c : Ctx) : Unseen i (State.setSlot · j c) := by
  have hne : ∀ k ∈ i.slotFields, j ≠ k := fun k hk e => hj (e ▸ hk)
  constructor
  case slot => exact fun k hk s => List.getElem?_set_ne (hne k hk)
  case setSlot =>
    intro k hk s c'
    simp only [State.setSlot, List.set_comm _ _ (hne k hk)]
  all_goals intros; rfl

/-- Only a DRBG command reads or writes a DRBG register (10_state.md R29, 60_exceptions.md R139). -/
theorem unseen_withDrbg {i : Instr} (h : ¬(0x20 ≤ i.opcode.toNat ∧ i.opcode.toNat < 0x30)) (d : Drbg) :
    Unseen i fun s => { s with drbg := d } := by
  constructor
  case drbg | withDrbg => exact fun hd => absurd hd h
  all_goals intros; rfl

end Sys2Proof.Machine
end

section
/-! SUPPORT. What the host writes and reads, which slots a command touches, how a step takes DIN bytes, and STS, bit by bit. -/

namespace Sys2Proof.Machine

/-! ### ARGn and the running command -/

theorem State.hostMove_writeArg {s : State} (h : s.rst = false) (n : Fin 3) (v : Reg) :
    s.hostMove (.writeArg n v) = s.writeArg n v := by
  simp [State.hostMove, h]

/-- Settles O8: a write to ARGn is an update no command sees, and no command changes ARG0 to ARG2. -/
theorem argWriteNeverReachesRunningCommand : Obligations.ArgWriteNeverReachesRunningCommand := by
  refine ⟨fun s v hr => ?_, fun i n v s t h => ?_, fun s n v hr => State.hostMove_writeArg hr n v, fun _ _ => rfl,
    fun _ => ⟨rfl, rfl, rfl, rfl, rfl, rfl⟩⟩
  · exact ⟨State.hostMove_writeArg hr 0 v, State.hostMove_writeArg hr 1 v, State.hostMove_writeArg hr 2 v⟩
  · exact ⟨exec_unseen (unseen_writeArg i n v) h, exec_arg0 h, exec_arg1 h, exec_arg2 h⟩

/-! ### Slots -/

theorem opcode_lt_of_slotFields {i : Instr} (h : i.slotFields ≠ []) : i.opcode.toNat < 0x10 := by
  cases i with
  | ctxShake | ctxCshake | ctxAbsorb | ctxSqueeze | ctxClone | ctxReset | ctxFree | ctxStatus => simp [Instr.opcode]
  | _ => exact absurd rfl h

/-- A slot command's SA is the first slot its word names. -/
theorem slotA_mem_slotFields {i : Instr} (h : i.opcode.toNat < 0x10) : i.slotA ∈ i.slotFields.take 1 := by
  cases i with
  | ctxShake | ctxCshake | ctxAbsorb | ctxSqueeze | ctxClone | ctxReset | ctxFree | ctxStatus => exact .head _
  | _ => exact absurd h (by decide)

/-- A command writes no slot but SA. -/
theorem exec_slots_getElem? {i : Instr} {j : Nat} {s t : State} (hj : j ∉ i.slotFields.take 1)
    (h : exec i s = .next t) : t.slots[j]? = s.slots[j]? := by
  rcases exec_slots h with e | ⟨c, e, hlt⟩ <;> rw [e]
  refine List.getElem?_set_ne fun hij => hj ?_
  rw [← hij]
  exact slotA_mem_slotFields hlt

/-- An index at or above NCTX names no slot (40_sponge.md R76). -/
theorem exec_badSlot {i : Instr} {j : Nat} {s : State} (hj : j ∈ i.slotFields) (hn : s.slots.length ≤ j) :
    exec i s = .next (s.completed i.opcode .badSlot 0) := by
  cases i with
  | ctxShake sa | ctxCshake sa | ctxFree sa | ctxStatus sa =>
    obtain rfl : j = sa := List.mem_singleton.mp hj
    exact congrArg _ (State.withSlot_none hn)
  | ctxAbsorb sa | ctxSqueeze sa | ctxReset sa =>
    obtain rfl : j = sa := List.mem_singleton.mp hj
    exact congrArg _ (State.withBuiltSlot_none hn)
  | ctxClone dst src =>
    rcases hd : s.slots[dst]? with _ | c
    · exact congrArg _ (State.withSlot_none (by simpa using hd))
    · obtain rfl | rfl : j = dst ∨ j = src := by simpa [Instr.slotFields] using hj
      · rw [List.getElem?_eq_none hn] at hd; cases hd
      · exact congrArg _ ((State.withSlot_some hd).trans (State.withBuiltSlot_none hn))
  | _ => cases hj

/-- Settles O18: another slot's content, and for a slot command the DRBG registers, are updates the command does not see. -/
theorem slotsAreIndependent : Obligations.SlotsAreIndependent := by
  refine ⟨fun i j c s t hj h => ?_, fun i j s t hj h => exec_slots_getElem? hj h, fun i d s t hi h => ?_,
    fun i s ⟨j, hj, hn⟩ => exec_badSlot hj hn⟩
  · exact ⟨exec_unseen (unseen_setSlot hj c) h, exec_slots_getElem? (fun hm => hj (List.mem_of_mem_take hm)) h⟩
  · have hlt := opcode_lt_of_slotFields hi
    have hd : ¬(0x20 ≤ i.opcode.toNat ∧ i.opcode.toNat < 0x30) := by omega
    exact ⟨exec_unseen (unseen_withDrbg hd d) h, (exec_drbg h).resolve_right hd⟩

/-! ### DIN -/

/-- On the engine's turn a step is the engine's move, the turn used up. -/
theorem step_engine {s : State} (h : s.turns = [] ∨ ∃ ts, s.turns = .engine :: ts) :
    step s = State.engineMove { s with turns := s.turns.tail } := by
  rcases step_cases s with ⟨a, ts, e, -⟩ | ⟨-, e⟩
  · simp [e] at h
  · exact e

theorem step_dataIn {s : State} {taken : List Byte} {need : Nat} (hr : s.rst = false)
    (hp : s.phase = .dataIn taken need) (h : s.turns = [] ∨ ∃ ts, s.turns = .engine :: ts) :
    step s = .next (State.dinTransfer { s with turns := s.turns.tail } taken need) := by
  rw [step_engine h]
  simp [State.engineMove, hr, hp]

theorem State.dinTransfer_all {s : State} {taken d rest : List Byte} {need : Nat} (ho : s.dinOffer = d ++ rest)
    (hd : d.length = need) :
    s.dinTransfer taken need = { s with phase := .exec (taken ++ d), dinOffer := rest } := by
  subst hd
  simp [State.dinTransfer, ho]

theorem State.dinTransfer_part {s : State} {taken : List Byte} {need : Nat} (h : s.dinOffer.length < need) :
    s.dinTransfer taken need =
      { s with phase := .dataIn (taken ++ s.dinOffer) (need - s.dinOffer.length), dinOffer := [] } := by
  simp only [State.dinTransfer, if_neg (Nat.not_le.mpr h)]

theorem State.dinTaken_exec {s : State} {taken : List Byte} (h : s.phase = .exec taken) : s.dinTaken = taken := by
  simp only [State.dinTaken, h]

/-- Settles O20: the phases a command can enter (`exec_phase`), its frame, and the DIN handshake. -/
theorem commandTakesDeclaredBytes : Obligations.CommandTakesDeclaredBytes := by
  refine ⟨fun i s t hp h => ?_, fun i s t taken hp hl h => ?_, fun i s t h => ?_, fun s taken need hr hp ht => ?_⟩
  · have hnil : s.dinTaken = [] := State.dinTaken_exec hp
    have hphase := exec_phase h
    simp only [hnil, List.length_nil, Nat.le_zero, Nat.sub_zero] at hphase
    rcases hphase with ⟨e, he | h0⟩ | ⟨hl, e⟩ | ⟨h0, b, done, hb, e⟩
    · exact .inl ⟨e, he⟩
    · exact .inr (.inr ⟨h0, .inl e⟩)
    · exact .inr (.inl ⟨hl, e⟩)
    · exact .inr (.inr ⟨h0, .inr ⟨b, done, e, hb⟩⟩)
  · have htaken : s.dinTaken = taken := State.dinTaken_exec hp
    rcases exec_phase h with ⟨e, -⟩ | ⟨hlt, -⟩ | ⟨-, b, done, hb, e⟩
    · exact .inl e
    · rw [htaken, hl] at hlt; exact absurd hlt (lt_irrefl _)
    · exact .inr ⟨b, done, e, hb⟩
  · exact ⟨exec_dinOffer h, exec_doutReady h, exec_doutTaken h⟩
  · rw [step_dataIn hr hp ht]
    exact ⟨fun d rest ho hd => congrArg _ (State.dinTransfer_all ho hd),
      fun hlt => congrArg _ (State.dinTransfer_part hlt)⟩

/-! ### CMD, STS and reset -/

/-- Settles O7: with RST released the host's move is `State.writeCmd`, which asks BUSY alone. -/
theorem cmdWriteIssuesOrIsDropped : Obligations.CmdWriteIssuesOrIsDropped := by
  intro s w hr
  have hmove : s.hostMove (.writeCmd w) = s.writeCmd w := by simp [State.hostMove, hr]
  rw [hmove]
  refine ⟨fun hidle => ?_, fun hbusy => ?_⟩
  · have hissue : s.writeCmd w = s.issue w := by simp [State.writeCmd, hidle]
    exact ⟨hissue, by rw [hissue]; rfl⟩
  · have hdrop : s.writeCmd w = s := by simp [State.writeCmd, hbusy]
    exact ⟨hdrop, by rw [hdrop]; rfl⟩

/-- A field of a word above its lowest part. -/
theorem extractLsb'_append_skip {v w n len : Nat} {hi : BitVec v} {lo : BitVec w} {x : BitVec len}
    (h : hi.extractLsb' n len = x) : (hi ++ lo).extractLsb' (n + w) len = x := by
  rw [BitVec.extractLsb'_append_eq_of_le (Nat.le_add_left _ _), Nat.add_sub_cancel]
  exact h

/-- The fields of STS from bit 0 up (10_state.md R23). -/
theorem State.sts_fields (s : State) :
    s.sts.extractLsb' 0 1 = BitVec.ofBool s.busy ∧ s.sts.extractLsb' 1 2 = s.phase.code ∧
    s.sts.extractLsb' 3 5 = 0#5 ∧ s.sts.extractLsb' 8 8 = s.err.code ∧ s.sts.extractLsb' 16 8 = s.lastOp ∧
    s.sts.extractLsb' 24 1 = BitVec.ofBool s.params.testMode ∧ s.sts.extractLsb' 25 7 = 0#7 := by
  refine ⟨BitVec.extractLsb'_append_eq_right, extractLsb'_append_skip BitVec.extractLsb'_append_eq_right,
    ?low, ?err, ?lastOp, ?testMode, ?high⟩
  case low => iterate 2 apply extractLsb'_append_skip
              exact BitVec.extractLsb'_append_eq_right
  case err => iterate 3 apply extractLsb'_append_skip
              exact BitVec.extractLsb'_append_eq_right
  case lastOp => iterate 4 apply extractLsb'_append_skip
                 exact BitVec.extractLsb'_append_eq_right
  case testMode => iterate 5 apply extractLsb'_append_skip
                   exact BitVec.extractLsb'_append_eq_right
  case high => iterate 5 apply extractLsb'_append_skip
               exact BitVec.extractLsb'_append_eq_left

/-- Settles O11: the fields of STS, with each view's values one by one. -/
theorem statusWordFields : Obligations.StatusWordFields := by
  intro s
  obtain ⟨hbusy, hphase, hlow, herr, hop, htest, hhigh⟩ := s.sts_fields
  refine ⟨hbusy.trans ?_, hphase.trans ?_, hlow, herr.trans ?_, hop, htest.trans ?_, hhigh⟩
  · rcases hp : s.phase <;> simp [State.busy, hp]
  · cases s.phase <;> rfl
  · cases s.err <;> rfl
  · cases s.params.testMode <;> rfl

/-- The STS word of a block out of reset: TESTMODE at bit 24 and nothing else. -/
theorem sts_word_of_testMode (b : Bool) :
    (0#7 ++ BitVec.ofBool b ++ 0#8 ++ 0#8 ++ 0#5 ++ 0#2 ++ 0#1 : BitVec 32) =
      BitVec.ofNat 32 (if b then 2 ^ 24 else 0) := by
  revert b; decide

/-- Settles O10: the fields are those of `State.resetWith`, and the STS word holds TESTMODE alone. -/
theorem resetHoldsListedValues : Obligations.ResetHoldsListedValues := by
  refine ⟨rfl, rfl, rfl, rfl, rfl, rfl, rfl, rfl, rfl, rfl, rfl, sts_word_of_testMode _, rfl, rfl, rfl, rfl,
    rfl, fun c hc => List.eq_of_mem_replicate hc, rfl, rfl, rfl, rfl, rfl, rfl, ?_⟩
  rintro c (rfl | rfl) <;> rfl

end Sys2Proof.Machine
end

section
/-! SUPPORT. The bytes of a context's state (20_memory.md R39): which bits of which lane a byte is, and which byte an XOR
changes. -/

namespace Sys2Proof.Machine

/-! ### Bytes of one lane -/

/-- A byte placed at byte `a` of a lane is `v` at that byte, and the lane is zero at its other bytes. -/
theorem extractLsb'_placedByte (v : Byte) {a : Nat} (b : Nat) (ha : a < 8) :
    (v.setWidth 64 <<< (8 * a)).extractLsb' (8 * b) 8 = if b = a then v else 0 := by
  ext k hk
  rcases lt_trichotomy b a with hlt | rfl | hgt
  · have hbelow : 8 * b + k < 8 * a := by omega
    simp [hlt.ne, hbelow]
  · have hinside : 8 * b + k < 64 := by omega
    simp [hinside, hk]
  · have hpast : 8 ≤ 8 * b + k - 8 * a := by omega
    simp [hgt.ne', BitVec.getLsbD_of_ge v _ hpast]

/-! ### Bytes of the lane array -/

/-- State byte `j` is byte `j % 8` of lane `j / 8`. -/
theorem Ctx.stateByte_eq_extractLsb' (c : Ctx) (j : Nat) (h : j / 8 < 25) :
    c.stateByte j = (c.lanes[j / 8]).extractLsb' (8 * (j % 8)) 8 := by
  simp [Ctx.stateByte, h, BitVec.setWidth_ushiftRight_eq_extractLsb]

/-- Below byte 200 the lane `Ctx.xorByte` writes exists. -/
theorem Ctx.xorByte_eq_set (c : Ctx) (i : Nat) (v : Byte) (h : i / 8 < 25) :
    c.xorByte i v =
      { c with lanes := c.lanes.set (i / 8) (c.lanes[i / 8] ^^^ (v.setWidth 64 <<< (8 * (i % 8)))) } := by
  simp [Ctx.xorByte, h, Vector.set, Vector.setIfInBounds, Array.setIfInBounds]

/-- The lanes after an XOR into byte `i`: lane `i / 8` has the placed byte XORed in. -/
theorem Ctx.xorByte_getElem (c : Ctx) {i k : Nat} (v : Byte) (hi : i / 8 < 25) (hk : k < 25) :
    (c.xorByte i v).lanes[k] =
      if k = i / 8 then c.lanes[k] ^^^ (v.setWidth 64 <<< (8 * (i % 8))) else c.lanes[k] := by
  rw [c.xorByte_eq_set i v hi, Vector.getElem_set]
  split
  · next h => subst h; simp
  · next h => simp [Ne.symm h]

/-- XORing into byte `i` changes that byte alone: another byte is in another lane, or elsewhere in the same lane. -/
theorem Ctx.stateByte_xorByte (c : Ctx) (i j : Nat) (v : Byte) (hi : i < 200) (hj : j < 200) :
    (c.xorByte i v).stateByte j = if j = i then c.stateByte j ^^^ v else c.stateByte j := by
  have hil : i / 8 < 25 := by omega
  have hjl : j / 8 < 25 := by omega
  have hmod : i % 8 < 8 := by omega
  rw [Ctx.stateByte_eq_extractLsb' _ j hjl, Ctx.stateByte_eq_extractLsb' _ j hjl, c.xorByte_getElem v hil hjl]
  by_cases hlane : j / 8 = i / 8
  · have hbyte : j % 8 = i % 8 ↔ j = i := by omega
    rw [if_pos hlane, BitVec.extractLsb'_xor, extractLsb'_placedByte v _ hmod]
    simp only [hbyte]
    split <;> simp
  · have hne : j ≠ i := fun h => hlane (by rw [h])
    rw [if_neg hlane, if_neg hne]

/-- Settles O25: a byte is a field of its lane, and an XOR changes one lane, in it one byte. -/
theorem stateByteAfterXor : Obligations.StateByteAfterXor :=
  ⟨Ctx.stateByte_eq_extractLsb', Ctx.xorByte_eq_set, Ctx.stateByte_xorByte⟩

end Sys2Proof.Machine
end

section
/-! SUPPORT. The fields of a command word, what a row of the opcode map reads from them, and which words are commands
(30_encoding.md R53-R58). -/

namespace Sys2Proof

/-! ### The fields of a word -/

/-- A word is the sum of its four fields, each at its place (30_encoding.md R53). -/
theorem word_toNat (w : CmdWord) :
    w.toNat = (opcField w).toNat + 2 ^ 8 * saField w + 2 ^ 12 * sbField w + 2 ^ 16 * (rsvField w).toNat := by
  simp only [opcField, saField, sbField, rsvField, BitVec.extractLsb'_toNat, Nat.shiftRight_eq_div_pow]
  omega

theorem saField_lt (w : CmdWord) : saField w < 16 := BitVec.isLt _

theorem sbField_lt (w : CmdWord) : sbField w < 16 := BitVec.isLt _

/-- The second byte of a word holds SB above SA. -/
theorem slotByte_toNat (w : CmdWord) : (w.extractLsb' 8 8).toNat = saField w + 16 * sbField w := by
  simp only [saField, sbField, BitVec.extractLsb'_toNat, Nat.shiftRight_eq_div_pow]
  omega

theorem slotByte_eq_zero_iff (w : CmdWord) : w.extractLsb' 8 8 = 0 ↔ saField w = 0 ∧ sbField w = 0 := by
  rw [← BitVec.toNat_inj, slotByte_toNat]
  change saField w + 16 * sbField w = 0 ↔ _
  omega

theorem sbField_eq_zero_iff (w : CmdWord) : sbField w = 0 ↔ w.extractLsb' 12 4 = 0 := by
  rw [← BitVec.toNat_inj]
  rfl

/-- The word's fields are those of command `i`: its opcode, RSV zero, its slot indices, zero in a slot field it does not use. -/
def CarriesFields (w : CmdWord) (i : Instr) : Prop :=
  opcField w = i.opcode ∧ rsvField w = 0 ∧ saField w = i.slotFields.getD 0 0 ∧ sbField w = i.slotFields.getD 1 0

/-- The four fields fix the word. -/
theorem CarriesFields.word_unique {w w' : CmdWord} {i : Instr} (h : CarriesFields w i) (h' : CarriesFields w' i) :
    w = w' := by
  obtain ⟨hopc, hrsv, hsa, hsb⟩ := h
  obtain ⟨hopc', hrsv', hsa', hsb'⟩ := h'
  apply BitVec.eq_of_toNat_eq
  rw [word_toNat w, word_toNat w', hopc, hrsv, hsa, hsb, hopc', hrsv', hsa', hsb']

/-- The word of every well-formed command carries its fields. -/
theorem encode_carriesFields {i : Instr} (h : i.wellFormed = true) : CarriesFields (encode i) i := by
  cases i with
  | ctxShake sa => exact Laws.Encoding.ctxShake sa h
  | ctxCshake sa => exact Laws.Encoding.ctxCshake sa h
  | ctxAbsorb sa => exact Laws.Encoding.ctxAbsorb sa h
  | ctxSqueeze sa => exact Laws.Encoding.ctxSqueeze sa h
  | ctxClone dst src => exact Laws.Encoding.ctxClone dst src h
  | ctxReset sa => exact Laws.Encoding.ctxReset sa h
  | ctxFree sa => exact Laws.Encoding.ctxFree sa h
  | ctxStatus sa => exact Laws.Encoding.ctxStatus sa h
  | encLeft => exact Laws.Encoding.encLeft h
  | encBytepad => exact Laws.Encoding.encBytepad h
  | drbgNew => exact Laws.Encoding.drbgNew h
  | drbgGenerate => exact Laws.Encoding.drbgGenerate h
  | drbgReseed => exact Laws.Encoding.drbgReseed h
  | drbgReset => exact Laws.Encoding.drbgReset h
  | drbgDestroy => exact Laws.Encoding.drbgDestroy h
  | drbgNeedReseed => exact Laws.Encoding.drbgNeedReseed h
  | drbgReadField => exact Laws.Encoding.drbgReadField h
  | drbgTestSetCounter => exact Laws.Encoding.drbgTestSetCounter h
  | diagOffset => exact Laws.Encoding.diagOffset h
  | diagRemix => exact Laws.Encoding.diagRemix h

/-! ### The opcode map -/

/-- What R56 says of a row: the opcodes of its kind, and the opcode and slot fields of the commands it gives. -/
def OpcodeRow.Serves (opc : Byte) : OpcodeRow → Prop
  | .noSlot make => 0x10 ≤ opc.toNat ∧ make.opcode = opc ∧ make.slotFields = []
  | .slotA make => opc.toNat < 0x10 ∧ opc.toNat ≠ 0x05 ∧ ∀ sa, (make sa).opcode = opc ∧ (make sa).slotFields = [sa]
  | .slotAB make => opc.toNat = 0x05 ∧ ∀ sa sb, (make sa sb).opcode = opc ∧ (make sa sb).slotFields = [sa, sb]

/-- Every row of the opcode map serves its opcode. -/
theorem opcodeMap_serves {opc : Byte} {row : OpcodeRow} (h : opcodeMap opc = some row) : row.Serves opc := by
  unfold opcodeMap at h
  split at h <;> cases h
  all_goals
    next hopc => simp [OpcodeRow.Serves, Instr.opcode, Instr.slotFields, ← BitVec.toNat_inj, hopc]

/-- The opcodes without a row (30_encoding.md R58). -/
theorem opcodeMap_eq_none_iff (opc : Byte) :
    opcodeMap opc = none ↔
      opc.toNat = 0x00 ∨ (0x09 ≤ opc.toNat ∧ opc.toNat ≤ 0x0F) ∨ (0x12 ≤ opc.toNat ∧ opc.toNat ≤ 0x1F) ∨
        (0x28 ≤ opc.toNat ∧ opc.toNat ≤ 0x2F) ∨ 0x32 ≤ opc.toNat := by
  unfold opcodeMap
  split
  case h_21 => simp only [imp_false] at *; simp; omega
  all_goals next hopc => simp [hopc]

/-- Every command's opcode has a row, and from the command's own slot fields it reads the command back. -/
theorem opcodeMap_opcode (i : Instr) :
    ∃ row, opcodeMap i.opcode = some row ∧ row.read (i.slotFields.getD 0 0) (i.slotFields.getD 1 0) = .ok i := by
  cases i <;> exact ⟨_, rfl, rfl⟩

/-- A guarded result is `ok` when the guard holds and the result is. -/
theorem ite_error_eq_ok_iff {c : Prop} [Decidable c] {x : Except DecodeError Instr} {e : DecodeError} {i : Instr} :
    (if c then x else .error e) = .ok i ↔ c ∧ x = .ok i := by
  split <;> simp [*]

/-- Reading a row goes wrong only at a slot field it does not use. -/
theorem OpcodeRow.Serves.read_ok_iff {opc : Byte} {row : OpcodeRow} (h : row.Serves opc) (sa sb : Nat) :
    (∃ i, row.read sa sb = .ok i) ↔ (0x10 ≤ opc.toNat → sa = 0 ∧ sb = 0) ∧ (opc.toNat ≠ 0x05 → sb = 0) := by
  cases row with
  | noSlot make =>
    obtain ⟨hopc, -⟩ := h
    have h5 : opc.toNat ≠ 0x05 := by omega
    simp [OpcodeRow.read, ite_error_eq_ok_iff, hopc, h5]
  | slotA make =>
    obtain ⟨hopc, h5, -⟩ := h
    simp [OpcodeRow.read, ite_error_eq_ok_iff, Nat.not_le.mpr hopc, h5]
  | slotAB make =>
    obtain ⟨h5, -⟩ := h
    simp [OpcodeRow.read, h5]

/-- The command a row reads has the row's opcode and the slot fields it was read from. -/
theorem OpcodeRow.Serves.read_fields {opc : Byte} {row : OpcodeRow} (h : row.Serves opc) {sa sb : Nat} {i : Instr}
    (hi : row.read sa sb = .ok i) :
    opc = i.opcode ∧ sa = i.slotFields.getD 0 0 ∧ sb = i.slotFields.getD 1 0 := by
  cases row with
  | noSlot make =>
    obtain ⟨-, hopc, hslots⟩ := h
    obtain ⟨⟨rfl, rfl⟩, rfl⟩ : (sa = 0 ∧ sb = 0) ∧ make = i := by simpa [OpcodeRow.read, ite_error_eq_ok_iff] using hi
    simp [hopc, hslots]
  | slotA make =>
    obtain ⟨-, -, hmake⟩ := h
    obtain ⟨rfl, rfl⟩ : sb = 0 ∧ make sa = i := by simpa [OpcodeRow.read, ite_error_eq_ok_iff] using hi
    simp [hmake sa]
  | slotAB make =>
    obtain ⟨-, hmake⟩ := h
    obtain rfl : make sa sb = i := by simpa [OpcodeRow.read, ite_error_eq_ok_iff] using hi
    simp [hmake sa sb]

/-! ### Which word decodes to which command -/

/-- The three tests of `decode`, passed (30_encoding.md R55). -/
theorem decode_ok_iff_row {w : CmdWord} {i : Instr} :
    decode w = .ok i ↔
      ∃ row, opcodeMap (opcField w) = some row ∧ rsvField w = 0 ∧ row.read (saField w) (sbField w) = .ok i := by
  rcases hrow : opcodeMap (opcField w) with _ | row
  · simp [decode, hrow]
  · simp [decode, hrow, ite_error_eq_ok_iff]

/-- A word decodes to a command exactly when it carries the command's fields. -/
theorem decode_ok_iff {w : CmdWord} {i : Instr} : decode w = .ok i ↔ CarriesFields w i := by
  rw [decode_ok_iff_row]
  constructor
  · rintro ⟨row, hrow, hrsv, hread⟩
    obtain ⟨hopc, hsa, hsb⟩ := (opcodeMap_serves hrow).read_fields hread
    exact ⟨hopc, hrsv, hsa, hsb⟩
  · rintro ⟨hopc, hrsv, hsa, hsb⟩
    obtain ⟨row, hrow, hread⟩ := opcodeMap_opcode i
    exact ⟨row, hopc ▸ hrow, hrsv, by rw [hsa, hsb, hread]⟩

/-- The slot indices a word carries fit their 4-bit fields. -/
theorem CarriesFields.wellFormed {w : CmdWord} {i : Instr} (h : CarriesFields w i) : i.wellFormed = true := by
  obtain ⟨-, -, hsa, hsb⟩ := h
  have hsa16 : i.slotFields.getD 0 0 < 16 := hsa ▸ saField_lt w
  have hsb16 : i.slotFields.getD 1 0 < 16 := hsb ▸ sbField_lt w
  cases i with
  | ctxShake | ctxCshake | ctxAbsorb | ctxSqueeze | ctxReset | ctxFree | ctxStatus =>
    simpa [Instr.wellFormed, Instr.slotFields, slotIndexOk] using hsa16
  | ctxClone dst src => simpa [Instr.wellFormed, Instr.slotFields, slotIndexOk] using And.intro hsa16 hsb16
  | _ => rfl

/-- A word is some command's exactly when its opcode has a row, RSV is zero, and so are the slot fields the row does not
use. -/
theorem exists_decode_ok_iff (w : CmdWord) :
    (∃ i, decode w = .ok i) ↔
      opcodeMap (opcField w) ≠ none ∧ rsvField w = 0 ∧
        (0x10 ≤ (opcField w).toNat → saField w = 0 ∧ sbField w = 0) ∧
        ((opcField w).toNat ≠ 0x05 → sbField w = 0) := by
  simp only [decode_ok_iff_row]
  rcases hrow : opcodeMap (opcField w) with _ | row
  · simp
  · simpa using fun _ => (opcodeMap_serves hrow).read_ok_iff _ _

/-- Settles O1: the word of a well-formed command carries its fields, and carrying them is decoding to it. -/
theorem decodeOfEncode : Obligations.DecodeOfEncode := fun _ h => decode_ok_iff.mpr (encode_carriesFields h)

/-- Settles O2: a word that decodes to a command and the command's own word carry the same fields. -/
theorem encodeOfDecode : Obligations.EncodeOfDecode := by
  intro w i h
  have hw : CarriesFields w i := decode_ok_iff.mp h
  exact ⟨hw.wellFormed, (encode_carriesFields hw.wellFormed).word_unique hw⟩

/-- Settles O3: each written word is the encoding of its command, so the round trip gives the command back. -/
theorem writtenWordsDecode : Obligations.WrittenWordsDecode :=
  ⟨decodeOfEncode (.ctxShake 3) rfl, decodeOfEncode (.ctxClone 1 15) rfl, decodeOfEncode .encBytepad rfl,
    decodeOfEncode .drbgGenerate rfl, decodeOfEncode .diagRemix rfl⟩

end Sys2Proof

namespace Sys2Proof.Machine

/-! ### Running the word in CMD -/

theorem State.runCommand_ok {s : State} {i : Instr} (h : decode s.cmd = .ok i) : s.runCommand = exec i s := by
  simp [State.runCommand, h]

/-- A word that is no command completes with ERR_ILLEGAL_CMD and LASTOP its low byte (30_encoding.md R55). -/
theorem State.runCommand_error {s : State} {e : DecodeError} (h : decode s.cmd = .error e) :
    s.runCommand = .next (s.completed (opcField s.cmd) .illegalCmd 0) := by
  simp [State.runCommand, h, State.complete_eq_completed]

/-- Settles O4: the listed words are the negation of `exists_decode_ok_iff`, with the opcodes of `opcodeMap_eq_none_iff`. -/
theorem illegalWordsAreThoseListed : Obligations.IllegalWordsAreThoseListed := by
  refine ⟨fun w => ?_, fun s e h => State.runCommand_error h⟩
  rw [← not_exists, exists_decode_ok_iff, Ne, opcodeMap_eq_none_iff, ← slotByte_eq_zero_iff, sbField_eq_zero_iff, opcField,
    rsvField]
  simp only [not_and_or, not_not, Classical.not_imp, or_assoc, ne_eq]

/-! ### Steps -/

theorem step_host {s : State} {a : HostAction} {ts : List Turn} (h : s.turns = .host a :: ts) :
    step s = .next (State.hostMove { s with turns := ts } a) := by
  simp only [step, State.move, h]

/-- In EXEC the engine's turn runs the word in CMD. -/
theorem step_exec {s : State} {taken : List Byte} (hr : s.rst = false) (hp : s.phase = .exec taken)
    (h : s.turns = [] ∨ ∃ ts, s.turns = .engine :: ts) :
    step s = State.runCommand { s with turns := s.turns.tail } := by
  rw [step_engine h]
  simp [State.engineMove, hr, hp]

/-- In DATA_OUT the engine's turn hands bytes over. -/
theorem step_dataOut {s : State} {rest : List Byte} {done : Completion} (hr : s.rst = false)
    (hp : s.phase = .dataOut rest done) (h : s.turns = [] ∨ ∃ ts, s.turns = .engine :: ts) :
    step s = .next (State.doutTransfer { s with turns := s.turns.tail } rest done) := by
  rw [step_engine h]
  simp [State.engineMove, hr, hp]

/-- Idle, or with RST asserted, the engine has no move. -/
theorem State.engineMove_idle {s : State} (h : s.rst = true ∨ s.phase = .idle) : s.engineMove = .next s := by
  rcases h with hr | hp
  · simp [State.engineMove, hr]
  · simp [State.engineMove, hp]

/-- A placed word is run by the very next step. -/
theorem step_withFetchWord {s : State} {w : Nat} {i : Instr} (hw : w < 2 ^ 32)
    (h : decode (BitVec.ofNat 32 w) = .ok i) : step (s.withFetchWord 32 w) = exec i (s.withFetchWord 32 w) := by
  have hcmd : (s.withFetchWord 32 w).cmd = BitVec.ofNat 32 w := congrArg (BitVec.ofNat 32) (Nat.mod_eq_of_lt hw)
  exact (step_exec rfl rfl (.inl rfl)).trans (State.runCommand_ok (hcmd ▸ h))

theorem State.hostMove_write_rst {s : State} (hr : s.rst = true) (w : CmdWord) (n : Fin 3) (v : Reg) :
    s.hostMove (.writeCmd w) = s ∧ s.hostMove (.writeArg n v) = s := by
  simp [State.hostMove, hr]

/-- Settles O5: whose turn it is (`step_exec`, `step_engine`, `step_host`), then what the engine or the host does. -/
theorem stepRunsDecodedCommand : Obligations.StepRunsDecodedCommand := by
  refine ⟨fun s i taken hr hp ht hi => ?_, fun s e taken hr hp ht he => ?_, fun s a ts h => step_host h,
    fun s w i hw hi => step_withFetchWord hw hi, fun s h ht => ?_, fun s => rfl,
    fun s w n v hr => State.hostMove_write_rst hr w n v, fun s bytes n => ⟨rfl, rfl⟩⟩
  · exact (step_exec hr hp ht).trans (State.runCommand_ok hi)
  · exact (step_exec hr hp ht).trans (State.runCommand_error he)
  · exact (step_engine ht).trans (State.engineMove_idle h)

/-- Settles O6: the step is the DOUT handshake, which takes all of the rest or the part the host stands ready for. -/
theorem dataOutMovesBytesInOrder : Obligations.DataOutMovesBytesInOrder := by
  intro s rest done hr hp ht
  rw [step_dataOut hr hp ht]
  rcases State.doutTransfer_cases { s with turns := s.turns.tail } rest done with ⟨hall, e⟩ | ⟨hpart, e⟩ <;> rw [e]
  · exact ⟨fun _ => rfl, fun hlt => absurd hall (Nat.not_le.mpr hlt)⟩
  · exact ⟨fun hle => absurd hle (Nat.not_le.mpr hpart), fun _ => rfl⟩

end Sys2Proof.Machine
end

section
/-! SUPPORT. Absorb and Squeeze, byte by byte (40_sponge.md R67 to R73): which bytes an absorb changes, what a full block does,
which bytes Squeeze returns, and how both split. -/

namespace Sys2Proof.Machine

variable (p : PermChoice) {c : Ctx}

/-! ### Bytes XORed into the state -/

/-- The bytes of `x` are those of `c` with `d` XORed in from byte `a` on. -/
def Ctx.Xored (c x : Ctx) (a : Nat) (d : List Byte) : Prop :=
  ∀ j < 200,
    x.stateByte j = if a ≤ j ∧ j < a + d.length then c.stateByte j ^^^ d.getD (j - a) 0 else c.stateByte j

theorem Ctx.Xored.nil (c : Ctx) (a : Nat) : c.Xored c a [] := fun _ _ =>
  (if_neg fun ⟨h, h'⟩ => absurd h' (Nat.not_lt.mpr h)).symm

/-- XORing one more byte in right after `d`. -/
theorem Ctx.Xored.concat {x : Ctx} {a : Nat} {d : List Byte} (h : c.Xored x a d) (hl : a + d.length < 200) (v : Byte) :
    c.Xored (x.xorByte (a + d.length) v) a (d ++ [v]) := by
  intro j hj
  rw [Ctx.stateByte_xorByte x _ j v hl hj, h j hj, List.length_append, List.length_singleton]
  rcases lt_trichotomy j (a + d.length) with hlt | rfl | hgt
  · have hin : a ≤ j → j - a < d.length := by omega
    have hlt' : j < a + (d.length + 1) := by omega
    rw [if_neg hlt.ne]
    simp only [hlt, hlt', and_true]
    split
    · next ha => rw [List.getD_append _ _ _ _ (hin ha)]
    · rfl
  · simp
  · have hout : ¬ j < a + d.length := by omega
    have hout' : ¬ j < a + (d.length + 1) := by omega
    simp [hgt.ne', hout, hout']

/-! ### Absorb -/

/-- A byte that leaves room in the block is XORed in at the cursor, which moves on (40_sponge.md R67). -/
theorem Ctx.absorbByte_of_room (h : c.cursor.toNat + 1 < c.rate.toNat) (v : Byte) :
    c.absorbByte p v = { c.xorByte c.cursor.toNat v with cursor := c.cursor + 1 } := by
  simp only [Ctx.absorbByte, if_neg h.ne]

/-- The byte that fills the block is XORed in, and the lanes are permuted (40_sponge.md R67). -/
theorem Ctx.absorbByte_of_full (h : c.cursor.toNat + 1 = c.rate.toNat) (v : Byte) :
    c.absorbByte p v = { c with lanes := permute p (c.xorByte c.cursor.toNat v).lanes, cursor := 0 } := by
  simp only [Ctx.absorbByte, if_pos h]
  rfl

theorem Ctx.absorb_concat (c : Ctx) (d : List Byte) (v : Byte) :
    c.absorb p (d ++ [v]) = (c.absorb p d).absorbByte p v := Ctx.absorb_append p c d [v]

/-- Inside the block the cursor counts the absorbed bytes. -/
theorem Ctx.absorb_cursor_of_room {d : List Byte} (h : c.cursor.toNat + d.length < c.rate.toNat) :
    (c.absorb p d).cursor.toNat = c.cursor.toNat + d.length := by
  rw [Ctx.absorb_cursor p (by omega), Nat.mod_eq_of_lt h]

/-- Until a block fills, an absorb XORs its bytes in from the cursor on (40_sponge.md R67). -/
theorem Ctx.absorb_xored (hr : c.rate.toNat ≤ 200) (d : List Byte) (h : c.cursor.toNat + d.length < c.rate.toNat) :
    c.Xored (c.absorb p d) c.cursor.toNat d := by
  induction d using List.reverseRecOn with
  | nil => exact .nil c _
  | append_singleton d v ih =>
    rw [List.length_append, List.length_singleton] at h
    have hcur := Ctx.absorb_cursor_of_room p (c := c) (d := d) (by omega)
    rw [Ctx.absorb_concat, Ctx.absorbByte_of_room p (by rw [hcur, Ctx.absorb_rate]; omega), hcur]
    exact (ih (by omega)).concat (by omega) v

/-- An absorb whose last byte fills the block permutes the lanes with all its bytes XORed in (40_sponge.md R67). -/
theorem Ctx.absorb_fills (hc : c.cursor.toNat < c.rate.toNat) (hr : c.rate.toNat ≤ 200) {d : List Byte}
    (h : c.cursor.toNat + d.length = c.rate.toNat) :
    ∃ x : Ctx, c.absorb p d = { c with lanes := permute p x.lanes, cursor := 0 } ∧ c.Xored x c.cursor.toNat d := by
  rcases List.eq_nil_or_concat' d with rfl | ⟨d, v, rfl⟩
  · exact absurd h hc.ne
  rw [List.length_append, List.length_singleton] at h
  have hroom : c.cursor.toNat + d.length < c.rate.toNat := by omega
  have hcur := Ctx.absorb_cursor_of_room p hroom
  refine ⟨(c.absorb p d).xorByte (c.cursor.toNat + d.length) v, ?_, (Ctx.absorb_xored p hr d hroom).concat (by omega) v⟩
  rw [Ctx.absorb_concat, Ctx.absorbByte_of_full p (by rw [hcur, Ctx.absorb_rate]; omega), hcur]
  simp

/-- An absorb changes LANES and CURSOR alone (40_sponge.md R67). -/
theorem Ctx.absorb_frame (c : Ctx) (d : List Byte) :
    c.absorb p d = { c with lanes := (c.absorb p d).lanes, cursor := (c.absorb p d).cursor } := by
  obtain ⟨hvalid, hrate, hds, hdir, hib⟩ := c.absorb_keeps p d
  rw [← hvalid, ← hrate, ← hds, ← hdir, ← hib]

/-- Settles O26: the cursor (`Ctx.absorb_cursor`), the bytes of a part of a block and of a whole one, and the split. -/
theorem absorbArithmetic : Obligations.AbsorbArithmetic := fun p c d h =>
  ⟨Ctx.absorb_cursor p h d, Ctx.absorb_frame p c d, fun hr hroom => Ctx.absorb_xored p hr d hroom,
    fun hr hfull => Ctx.absorb_fills p h hr hfull, Ctx.absorb_append p c d⟩

/-! ### Finalize -/

theorem Ctx.squeeze_absorbing (h : c.dir = .absorbing) (n : Nat) :
    c.squeeze p n = Ctx.squeezeBytes p n (c.finalize p) := by
  simp only [Ctx.squeeze, h]

theorem Ctx.squeeze_squeezing (h : c.dir = .squeezing) (n : Nat) : c.squeeze p n = Ctx.squeezeBytes p n c := by
  simp only [Ctx.squeeze, h]

/-- The bytes Finalize XORs in: DS at the cursor and 0x80 at the block's last byte (40_sponge.md R69). -/
theorem Ctx.stateByte_padded (hc : c.cursor.toNat < c.rate.toNat) (hr : c.rate.toNat ≤ 200) {j : Nat} (hj : j < 200) :
    ((c.xorByte c.cursor.toNat c.ds).xorByte (c.rate.toNat - 1) 0x80).stateByte j =
      if j = c.cursor.toNat ∧ j = c.rate.toNat - 1 then c.stateByte j ^^^ (c.ds ^^^ 0x80)
      else if j = c.cursor.toNat then c.stateByte j ^^^ c.ds
      else if j = c.rate.toNat - 1 then c.stateByte j ^^^ 0x80
      else c.stateByte j := by
  rw [Ctx.stateByte_xorByte _ _ j _ (by omega) hj, Ctx.stateByte_xorByte _ _ j _ (by omega) hj]
  by_cases hcur : j = c.cursor.toNat
  · by_cases hlast : j = c.rate.toNat - 1
    · rw [if_pos hlast, if_pos hcur, if_pos ⟨hcur, hlast⟩, BitVec.xor_assoc]
    · rw [if_neg hlast, if_pos hcur, if_neg fun h => hlast h.2, if_pos hcur]
  · have hboth : ¬(j = c.cursor.toNat ∧ j = c.rate.toNat - 1) := fun h => hcur h.1
    simp only [if_neg hcur, if_neg hboth]

/-! ### Squeeze -/

/-- Inside the block there is nothing to permute (40_sponge.md R70). -/
theorem Ctx.turnBlock_of_room (h : c.cursor.toNat < c.rate.toNat) : c.turnBlock p = c :=
  if_neg fun e => h.ne (congrArg BitVec.toNat e)

/-- At RATE the lanes are permuted and reading starts again at 0 (40_sponge.md R70). -/
theorem Ctx.turnBlock_of_full (h : c.cursor = c.rate) :
    c.turnBlock p = { c with lanes := permute p c.lanes, cursor := 0 } := if_pos h

theorem Ctx.turnBlock_cursor (h : c.cursor.toNat ≤ c.rate.toNat) :
    (c.turnBlock p).cursor.toNat = c.cursor.toNat % c.rate.toNat := by
  rcases h.lt_or_eq with hlt | heq
  · rw [Ctx.turnBlock_of_room p hlt, Nat.mod_eq_of_lt hlt]
  · rw [Ctx.turnBlock_of_full p (BitVec.eq_of_toNat_eq heq), heq, Nat.mod_self]
    rfl

/-- A cursor inside the block does not wrap. -/
theorem Ctx.cursor_add_one (h : c.cursor.toNat < c.rate.toNat) : (c.cursor + 1).toNat = c.cursor.toNat + 1 :=
  BitVec.toNat_add_of_lt (by have := c.rate.isLt; simp; omega)

/-- The context after one squeezed byte (40_sponge.md R70). -/
def Ctx.afterByte (c : Ctx) : Ctx := { c.turnBlock p with cursor := (c.turnBlock p).cursor + 1 }

/-- The squeeze loop, one byte on. -/
theorem Ctx.squeezeBytes_succ (c : Ctx) (n : Nat) :
    Ctx.squeezeBytes p (n + 1) c =
      ((c.turnBlock p).stateByte (c.turnBlock p).cursor.toNat :: (Ctx.squeezeBytes p n (c.afterByte p)).1,
        (Ctx.squeezeBytes p n (c.afterByte p)).2) := rfl

@[simp] theorem Ctx.afterByte_rate (c : Ctx) : (c.afterByte p).rate = c.rate := by
  obtain ⟨-, hrate, -, -, -⟩ := c.turnBlock_keeps p
  exact hrate

theorem Ctx.afterByte_cursor (hr : 0 < c.rate.toNat) (h : c.cursor.toNat ≤ c.rate.toNat) :
    (c.afterByte p).cursor.toNat = c.cursor.toNat % c.rate.toNat + 1 := by
  obtain ⟨-, hrate, -, -, -⟩ := c.turnBlock_keeps p
  rw [← Ctx.turnBlock_cursor p h]
  exact Ctx.cursor_add_one (by rw [hrate]; exact Ctx.turnBlock_cursor_lt p h hr)

/-- Within the block Squeeze reads the state bytes from the cursor on, and moves the cursor alone (40_sponge.md R70). -/
theorem Ctx.squeezeBytes_within (n : Nat) (h : c.cursor.toNat + n ≤ c.rate.toNat) :
    Ctx.squeezeBytes p n c =
      ((List.range n).map fun i => c.stateByte (c.cursor.toNat + i),
        { c with cursor := c.cursor + BitVec.ofNat 8 n }) := by
  induction n generalizing c with
  | zero => simp [Ctx.squeezeBytes]
  | succ n ih =>
    have hlt : c.cursor.toNat < c.rate.toNat := by omega
    have hone := Ctx.cursor_add_one hlt
    rw [Ctx.squeezeBytes_succ, Ctx.afterByte, Ctx.turnBlock_of_room p hlt, ih (by simp only [hone]; omega),
      List.range_succ_eq_map]
    simp only [hone, List.map_cons, List.map_map, Nat.add_zero, Prod.mk.injEq, List.cons.injEq, true_and]
    refine ⟨List.map_congr_left fun i _ => ?_, ?_⟩
    · exact congrArg c.stateByte (by omega)
    · rw [BitVec.add_assoc, BitVec.ofNat_add, BitVec.add_comm 1]
      rfl

/-- At RATE the next bytes come after PERM, from cursor 0 (40_sponge.md R70). -/
theorem Ctx.squeezeBytes_of_full (h : c.cursor = c.rate) (hr : c.rate ≠ 0) {n : Nat} (hn : 0 < n) :
    Ctx.squeezeBytes p n c = Ctx.squeezeBytes p n { c with lanes := permute p c.lanes, cursor := 0 } := by
  have hpos : 0 < c.rate.toNat := Nat.pos_of_ne_zero fun e => hr (BitVec.eq_of_toNat_eq e)
  have hturn := (Ctx.turnBlock_of_full p h).trans
    (Ctx.turnBlock_of_room p (c := { c with lanes := permute p c.lanes, cursor := 0 }) hpos).symm
  cases n with
  | zero => exact absurd hn (lt_irrefl 0)
  | succ n => simp only [Ctx.squeezeBytes_succ, Ctx.afterByte, hturn]

/-- Squeezing in two parts (40_sponge.md R71). -/
theorem Ctx.squeezeBytes_add (c : Ctx) (n m : Nat) :
    Ctx.squeezeBytes p (n + m) c =
      ((Ctx.squeezeBytes p n c).1 ++ (Ctx.squeezeBytes p m (Ctx.squeezeBytes p n c).2).1,
        (Ctx.squeezeBytes p m (Ctx.squeezeBytes p n c).2).2) := by
  induction n generalizing c with
  | zero => simp [Ctx.squeezeBytes]
  | succ n ih => rw [Nat.succ_add, Ctx.squeezeBytes_succ, ih, Ctx.squeezeBytes_succ]; rfl

/-- After at least one squeezed byte the cursor is in 1 to RATE, and counts the bytes mod RATE (40_sponge.md R71). -/
theorem Ctx.squeezeBytes_cursor (hr : 0 < c.rate.toNat) (h : c.cursor.toNat ≤ c.rate.toNat) (n : Nat) :
    (Ctx.squeezeBytes p (n + 1) c).2.cursor.toNat = (c.cursor.toNat + n) % c.rate.toNat + 1 := by
  induction n generalizing c with
  | zero => exact Ctx.afterByte_cursor p hr h
  | succ n ih =>
    have hcur := Ctx.afterByte_cursor p hr h
    have hlt := Nat.mod_lt c.cursor.toNat hr
    rw [Ctx.squeezeBytes_succ, ih (by simpa using hr) (by rw [hcur, Ctx.afterByte_rate]; omega), hcur,
      Ctx.afterByte_rate, Nat.add_right_comm, Nat.add_assoc, Nat.mod_add_mod]

/-- Where the squeeze loop leaves the cursor: within the block, and beyond it (40_sponge.md R71). -/
theorem Ctx.squeezeBytes_cursor_cases (hr : 0 < c.rate.toNat) (h : c.cursor.toNat ≤ c.rate.toNat) (n : Nat) :
    (c.cursor.toNat + n ≤ c.rate.toNat → (Ctx.squeezeBytes p n c).2.cursor.toNat = c.cursor.toNat + n) ∧
    (c.rate.toNat < c.cursor.toNat + n →
      (Ctx.squeezeBytes p n c).2.cursor.toNat = (c.cursor.toNat + n - 1) % c.rate.toNat + 1) := by
  cases n with
  | zero => exact ⟨fun _ => rfl, fun hlt => absurd h (Nat.not_le.mpr hlt)⟩
  | succ n =>
    rw [Ctx.squeezeBytes_cursor p hr h]
    exact ⟨fun hle => congrArg (· + 1) (Nat.mod_eq_of_lt hle), fun _ => rfl⟩

/-- Squeeze leaves a squeezing context. -/
@[simp] theorem Ctx.squeeze_dir (c : Ctx) (n : Nat) : (c.squeeze p n).2.dir = .squeezing := by
  obtain ⟨-, -, -, hdir, -⟩ := c.squeeze_keeps p n
  exact hdir

/-- Squeezing in two parts is squeezing once, whatever the direction of the context. -/
theorem Ctx.squeeze_add (c : Ctx) (n m : Nat) :
    c.squeeze p (n + m) =
      ((c.squeeze p n).1 ++ ((c.squeeze p n).2.squeeze p m).1, ((c.squeeze p n).2.squeeze p m).2) := by
  rw [Ctx.squeeze_squeezing p (c.squeeze_dir p n)]
  rcases hd : c.dir with _ | _
  · simp only [Ctx.squeeze_absorbing p hd, Ctx.squeezeBytes_add]
  · simp only [Ctx.squeeze_squeezing p hd, Ctx.squeezeBytes_add]

/-- Settles O27: Finalize comes first in an absorbing context, and the squeeze loop's bytes, cursor and split are those of
`Ctx.squeezeBytes_within`, `Ctx.squeezeBytes_of_full`, `Ctx.squeezeBytes_cursor` and `Ctx.squeezeBytes_add`. -/
theorem squeezeSplitsAndAdvances : Obligations.SqueezeSplitsAndAdvances := by
  refine ⟨fun p c n hd => ?_, fun c j hc hr hj => Ctx.stateByte_padded hc hr hj, fun p c n hd hn => ?_,
    fun p c n hd hcur hr hn => ?_, fun p c n m c0 => ?_⟩
  · exact (Ctx.squeeze_absorbing p hd n).trans (Ctx.squeeze_squeezing p (c.finalize_dir p) n).symm
  · rw [Ctx.squeeze_squeezing p hd, Ctx.squeezeBytes_within p n hn]
    exact ⟨rfl, rfl⟩
  · rw [Ctx.squeeze_squeezing p hd, Ctx.squeezeBytes_of_full p hcur hr hn]
    exact (Ctx.squeeze_squeezing p (c := { c with lanes := permute p c.lanes, cursor := 0 }) hd n).symm
  · rw [Ctx.squeeze_add]
    refine ⟨rfl, rfl, c.squeeze_dir p n, fun hr h0 hle => ?_⟩
    subst h0
    rcases hd : c.dir with _ | _
    · rw [Ctx.squeeze_absorbing p hd]
      exact Ctx.squeezeBytes_cursor_cases p (c := c.finalize p) hr (Nat.zero_le _) n
    · rw [Ctx.squeeze_squeezing p hd]
      exact Ctx.squeezeBytes_cursor_cases p hr (by simpa [hd] using hle) n

end Sys2Proof.Machine
end

section
/-! SUPPORT. The slot commands one by one (40_sponge.md R77 to R82), and what the slot commands and the queries leave alone. -/

namespace Sys2Proof.Machine

/-! ### Frames -/

/-- Settles O22: a command's frame, and of the slots it writes SA alone. -/
theorem slotCommandFrame : Obligations.SlotCommandFrame := by
  intro i s t hi h
  have hdrbg : ¬(0x20 ≤ i.opcode.toNat ∧ i.opcode.toNat < 0x30) := by omega
  refine ⟨exec_params h, exec_cmd h, exec_arg0 h, exec_arg1 h, exec_arg2 h, exec_a0 h, exec_a1 h, exec_a2 h, exec_rst h,
    exec_turns h, (exec_drbg h).resolve_right hdrbg, exec_slots_length h, fun j hj => ?_⟩
  rcases exec_slots h with e | ⟨c, e, -⟩ <;> rw [e]
  exact List.getElem?_set_ne (Ne.symm hj)

/-- `t` is `s` but for STS, RESULT and PHASE. -/
def State.Reported (s t : State) : Prop :=
  t = { s with phase := t.phase, err := t.err, lastOp := t.lastOp, result := t.result }

section Rules

variable {s : State} {op : Byte}

theorem State.Reported.of_next {t u : State} (hu : s.Reported u)
    (h : (.next u : Host.Outcome State Fault Refusal) = .next t) : s.Reported t :=
  Host.Outcome.next.inj h ▸ hu

theorem State.Reported.ite {b : Prop} [Decidable b] {t u : State} (ht : s.Reported t) (hu : s.Reported u) :
    s.Reported (if b then t else u) := by
  split
  · exact ht
  · exact hu

theorem State.Reported.complete (c : Completion) : s.Reported (s.complete c) := rfl

theorem State.Reported.doutWrite (b : List Byte) (done : Completion) : s.Reported (s.doutWrite b done) :=
  s.doutWrite_frame b done

theorem State.Reported.dinRead {n : Nat} {k : List Byte → State → State} (h : ∀ d, s.Reported (k d s)) :
    s.Reported (s.dinRead n k) := by
  rcases s.dinRead_cases n k with ⟨-, e⟩ | ⟨-, e⟩ <;> rw [e]
  · exact h _
  · rfl

theorem State.Reported.withSlot {i : Nat} {k : Ctx → State} (h : ∀ c, s.Reported (k c)) :
    s.Reported (s.withSlot op i k) := by
  simp only [State.withSlot]
  split
  · exact .complete _
  · exact h _

theorem State.Reported.withActive {t : State} (h : s.Reported t) : s.Reported (s.withActive op t) := by
  simp only [State.withActive]
  split
  · exact .complete _
  · exact .complete _
  · exact h

end Rules

/-- Settles O23: each of the seven checks, reads DIN, answers or emits, and none of these writes a slot or a DRBG register. -/
theorem queryCommandFrame : Obligations.QueryCommandFrame := by
  intro i s t hi h
  change s.Reported t
  cases i with
  | ctxStatus sa => exact .of_next (.withSlot fun c => .complete _) h
  | encLeft => exact .of_next (.doutWrite _ _) h
  | encBytepad =>
    exact .of_next (.ite (.complete _) (.ite (.complete _) (.dinRead fun x => .doutWrite _ _))) h
  | drbgNeedReseed => exact .of_next (.withActive (.complete _)) h
  | drbgReadField =>
    refine .of_next ?_ h
    split
    · exact .complete _
    · exact .complete _
  | diagOffset => exact .of_next (.ite (.complete _) (.dinRead fun d => .complete _)) h
  | diagRemix => exact .of_next (.dinRead fun w => .doutWrite _ _) h
  | _ => simp at hi

/-! ### The slot commands on a slot that exists -/

section Built

variable {sa : Nat} {s : State} {c : Ctx}

theorem exec_ctxAbsorb_absorbing (h : s.slots[sa]? = some c) (hv : c.valid = true) (hd : c.dir = .absorbing) :
    exec (.ctxAbsorb sa) s =
      .next (s.dinRead s.a0.toNat fun d s1 => (s1.setSlot sa (c.absorb s.params.perm d)).finish 0x03) := by
  refine congrArg _ ((State.withBuiltSlot_some h hv).trans ?_)
  simp only [hd]
  rfl

theorem exec_ctxAbsorb_squeezing (h : s.slots[sa]? = some c) (hv : c.valid = true) (hd : c.dir = .squeezing) :
    exec (.ctxAbsorb sa) s = .next (s.completed 0x03 .absorbAfterSqueeze 0) := by
  refine congrArg _ ((State.withBuiltSlot_some h hv).trans ?_)
  simp only [hd]
  rfl

theorem exec_ctxSqueeze_built (h : s.slots[sa]? = some c) (hv : c.valid = true) :
    exec (.ctxSqueeze sa) s =
      .next ((s.setSlot sa (c.squeeze s.params.perm s.a0.toNat).2).emit 0x04 (c.squeeze s.params.perm s.a0.toNat).1) :=
  congrArg _ (State.withBuiltSlot_some h hv)

/-- Cloning a slot onto itself, which the command leaves out, would change nothing. -/
theorem exec_ctxClone_built {dst src : Nat} (hd : dst < s.slots.length) (h : s.slots[src]? = some c)
    (hv : c.valid = true) :
    exec (.ctxClone dst src) s = .next (State.completed { s with slots := s.slots.set dst c } 0x05 .ok 0) := by
  refine congrArg _ ((State.withSlot_some (List.getElem?_eq_getElem hd)).trans
    ((State.withBuiltSlot_some h hv).trans ?_))
  split
  · next e =>
    subst e
    obtain ⟨hlt, rfl⟩ := List.getElem?_eq_some_iff.mp h
    rw [List.set_getElem_self]
    rfl
  · rfl

theorem exec_ctxReset_built (h : s.slots[sa]? = some c) (hv : c.valid = true) :
    exec (.ctxReset sa) s =
      .next (State.completed
        { s with slots := s.slots.set sa (c.resetCtx s.params.perm s.params.bytepadExtraAligned) } 0x06 .ok 0) :=
  congrArg _ (State.withBuiltSlot_some h hv)

theorem exec_ctxStatus_some (h : s.slots[sa]? = some c) :
    exec (.ctxStatus sa) s = .next (s.completed 0x08 .ok c.statusWord) :=
  congrArg _ (State.withSlot_some h)

end Built

/-! ### Their errors in order and their effects -/

/-- Settles O41: the checks, then DinRead's two cases (`State.dinRead_short`, `State.dinRead_taken`). -/
theorem ctxAbsorbAbsorbsDin : Obligations.CtxAbsorbAbsorbsDin := by
  refine fun sa s => ⟨fun hn => exec_badSlot (.head _) hn, fun c hc hv => congrArg _ (State.withBuiltSlot_free hc hv),
    fun c hc hv hd => exec_ctxAbsorb_squeezing hc hv hd, fun c hc hv hd hl => ?_, fun c d hc hv hd ht hl => ?_⟩
  · rw [exec_ctxAbsorb_absorbing hc hv hd, State.dinRead_short hl]
  · subst ht
    rw [exec_ctxAbsorb_absorbing hc hv hd, State.dinRead_taken hl]
    rfl

/-- Settles O42: Squeeze gives A0 bytes, and DoutWrite completes at once exactly when that is none. -/
theorem ctxSqueezeEmitsBytes : Obligations.CtxSqueezeEmitsBytes := by
  refine fun sa s => ⟨fun hn => exec_badSlot (.head _) hn, fun c hc hv => congrArg _ (State.withBuiltSlot_free hc hv),
    fun c after b hc hv hsq => ?_⟩
  have hb : b.length = s.a0.toNat := by rw [← c.squeeze_length s.params.perm s.a0.toNat, hsq]
  have hdir : after.dir = .squeezing := by rw [← c.squeeze_dir s.params.perm s.a0.toNat, hsq]
  rw [exec_ctxSqueeze_built hc hv, hsq]
  refine ⟨hdir, hb, fun h0 => ?_, fun h0 => congrArg _ (State.emit_offers ?_)⟩
  · obtain rfl : b = [] := List.eq_nil_of_length_eq_zero (by rw [hb, h0]; rfl)
    rfl
  · rintro rfl
    exact h0 (BitVec.eq_of_toNat_eq hb.symm)

/-- Settles O43: SA = SB falls under `exec_ctxClone_built`, where setting the slot to its own content is no change. -/
theorem ctxCloneCopiesSlot : Obligations.CtxCloneCopiesSlot := by
  refine fun dst src s => ⟨fun hn => ?_, fun c hd hc hv => ?_, fun c hd hc hv => exec_ctxClone_built hd hc hv,
    fun c hc hv e => ?_⟩
  · rcases hn with hn | hn
    · exact exec_badSlot (j := dst) (by simp [Instr.slotFields]) hn
    · exact exec_badSlot (j := src) (by simp [Instr.slotFields]) hn
  · exact congrArg _ ((State.withSlot_some (List.getElem?_eq_getElem hd)).trans (State.withBuiltSlot_free hc hv))
  · subst e
    obtain ⟨hlt, rfl⟩ := List.getElem?_eq_some_iff.mp hc
    rw [exec_ctxClone_built hlt hc hv, List.set_getElem_self]

/-- Settles O44: the rebuilt slot is ResetCtx of it. -/
theorem ctxResetRebuildsSlot : Obligations.CtxResetRebuildsSlot := fun _ _ =>
  ⟨fun hn => exec_badSlot (.head _) hn, fun _ hc hv => congrArg _ (State.withBuiltSlot_free hc hv),
    fun _ hc hv => exec_ctxReset_built hc hv⟩

/-- Settles O45: no check but the index, and Zeroize of the slot. -/
theorem ctxFreeClearsSlot : Obligations.CtxFreeClearsSlot := fun _ _ =>
  ⟨fun hn => exec_badSlot (.head _) hn, fun h => congrArg _ (State.withSlot_some (List.getElem?_eq_getElem h))⟩

/-! ### ResetCtx and the constructions -/

/-- Settles O28: the construction's own fields are those ResetCtx keeps. -/
theorem resetRestoresConstruction : Obligations.ResetRestoresConstruction := by
  rintro p extra r n cust ⟨valid, lanes, rate, ds, cursor, dir, ib⟩ (rfl : valid = true) (rfl : rate = r)
  refine ⟨fun (hds : ds = 0x1F) (hib : ib = []) => ?_,
    fun (hds : ds = 0x04) (hib : ib = initBlock n cust) hne => ?_⟩ <;> subst hds hib
  · rfl
  · have hib : initBlock n cust ≠ [] := by simp [initBlock, leftEncode_ne_nil]
    simp only [Ctx.resetCtx, newCshake, if_neg hib, if_neg hne]

/-! ### CTX_STATUS -/

/-- A field placed at bit `k` of a register reads back at that place. -/
theorem extractLsb'_placed {w k : Nat} (x : BitVec w) (h : k + w ≤ 64) :
    (x.setWidth 64 <<< k).extractLsb' k w = x := by
  ext j hj
  have hin : k + j < 64 := by omega
  simp [hin, hj]

/-- It leaves the bits below it and above it zero. -/
theorem extractLsb'_placed_of_disjoint {w k a len : Nat} (x : BitVec w) (h : a + len ≤ k ∨ k + w ≤ a) :
    (x.setWidth 64 <<< k).extractLsb' a len = 0#len := by
  ext j hj
  rcases h with hbelow | habove
  · have hlt : a + j < k := by omega
    simp [hlt]
  · have hge : w ≤ a + j - k := by omega
    simp [BitVec.getLsbD_of_ge x _ hge]

/-- RESULT of CTX_STATUS as six fields at their bits (40_sponge.md R82). -/
theorem Ctx.statusWord_valid {c : Ctx} (hv : c.valid = true) (hl : c.ib.length < 2 ^ 16) :
    c.statusWord = (1#1).setWidth 64 <<< 0 ||| c.dir.code.setWidth 64 <<< 1 ||| c.ds.setWidth 64 <<< 8 |||
      c.rate.setWidth 64 <<< 16 ||| c.cursor.setWidth 64 <<< 24 |||
      (BitVec.ofNat 16 c.ib.length).setWidth 64 <<< 32 := by
  have hlen : (BitVec.ofNat 16 c.ib.length).setWidth 64 = BitVec.ofNat 64 c.ib.length :=
    BitVec.eq_of_toNat_eq (by simp; omega)
  simp only [Ctx.statusWord, hv, if_true, hlen]
  rfl

theorem Ctx.statusWord_free {c : Ctx} (hv : c.valid = false) : c.statusWord = 0 := by
  simp [Ctx.statusWord, hv]

/-- Settles O46: RESULT is the OR of its placed fields, and each range of bits meets one of them or none. -/
theorem ctxStatusReportsFields : Obligations.CtxStatusReportsFields := by
  refine fun sa s => ⟨fun hn => exec_badSlot (.head _) hn, fun c hc hv => ?_,
    fun c hc hv hl => ⟨c.statusWord, exec_ctxStatus_some hc, ?_⟩⟩
  · rw [exec_ctxStatus_some hc, Ctx.statusWord_free hv]
  · rw [Ctx.statusWord_valid hv hl]
    simp (disch := omega) only [BitVec.extractLsb'_or, extractLsb'_placed, extractLsb'_placed_of_disjoint,
      BitVec.zero_or, BitVec.or_zero, true_and]
    refine ⟨rfl, ?_, rfl, ?_, rfl⟩
    · cases c.dir <;> rfl
    · exact Nat.mod_eq_of_lt hl

end Sys2Proof.Machine
end

section
/-! SUPPORT. leftEncode, leftDecode and bytepad (41_framing.md R83 to R87), and the commands ENC_LEFT and ENC_BYTEPAD that emit
them (R89, R90). -/

namespace Sys2Proof.Machine

/-! ### The byte count -/

theorem le_byteCountFrom (v fuel n : Nat) : n ≤ byteCountFrom v fuel n := by
  induction fuel generalizing n with
  | zero => exact le_rfl
  | succ fuel ih =>
    rw [byteCountFrom]
    split
    · exact (Nat.le_succ n).trans (ih (n + 1))
    · exact le_rfl

/-- The loop ends at a count that holds v, if the last count it can reach does. -/
theorem lt_two_pow_byteCountFrom {v fuel n : Nat} (h : v < 2 ^ (8 * (n + fuel))) :
    v < 2 ^ (8 * byteCountFrom v fuel n) := by
  induction fuel generalizing n with
  | zero => exact h
  | succ fuel ih =>
    rw [byteCountFrom]
    split
    · exact ih (by rwa [Nat.add_right_comm])
    · next hlt => exact Nat.not_le.mp hlt

/-- The loop leaves a count behind only when that count does not hold v. -/
theorem two_pow_le_of_lt_byteCountFrom {v fuel n : Nat} (h : n < byteCountFrom v fuel n) :
    2 ^ (8 * (byteCountFrom v fuel n - 1)) ≤ v := by
  induction fuel generalizing n with
  | zero => exact absurd h (lt_irrefl n)
  | succ fuel ih =>
    rw [byteCountFrom] at h ⊢
    split at h
    · next hle =>
      rw [if_pos hle]
      rcases (le_byteCountFrom v fuel (n + 1)).lt_or_eq with hlt | heq
      · exact ih hlt
      · rwa [← heq]
    · exact absurd h (lt_irrefl n)

theorem byteCount_pos (v : Nat) : 1 ≤ byteCount v := le_byteCountFrom v 7 1

theorem byteCount_le_eight (v : Nat) : byteCount v ≤ 8 := byteCountFrom_le v 7 1

/-- The byte count holds v. -/
theorem lt_two_pow_byteCount {v : Nat} (h : v < 2 ^ 64) : v < 2 ^ (8 * byteCount v) :=
  lt_two_pow_byteCountFrom (fuel := 7) (n := 1) h

/-- One byte less does not hold v. -/
theorem two_pow_le_of_one_lt_byteCount {v : Nat} (h : 1 < byteCount v) : 2 ^ (8 * (byteCount v - 1)) ≤ v :=
  two_pow_le_of_lt_byteCountFrom h

/-- Every count of at least 1 that holds v is at least the byte count (41_framing.md R83). -/
theorem byteCount_le_of_lt_two_pow {v m : Nat} (hm : 1 ≤ m) (h : v < 2 ^ (8 * m)) : byteCount v ≤ m := by
  by_contra hlt
  have hv : 2 ^ (8 * (byteCount v - 1)) ≤ v := two_pow_le_of_one_lt_byteCount (by omega)
  have hpow : 2 ^ (8 * m) ≤ 2 ^ (8 * (byteCount v - 1)) := Nat.pow_le_pow_right (by decide) (by omega)
  omega

/-! ### Big-endian bytes -/

@[simp] theorem bigEndian_length (n v : Nat) : (bigEndian n v).length = n := by simp [bigEndian]

theorem bigEndian_getElem? {n i : Nat} (v : Nat) (h : i < n) :
    (bigEndian n v)[i]? = some (BitVec.ofNat 8 (v >>> (8 * (n - 1 - i)))) := by simp [bigEndian, h]

/-- The last byte is the lowest, and the bytes before it encode the rest. -/
theorem bigEndian_succ (n v : Nat) : bigEndian (n + 1) v = bigEndian n (v >>> 8) ++ [BitVec.ofNat 8 v] := by
  simp only [bigEndian, List.range_succ, List.map_append, List.map_cons, List.map_nil]
  congr 1
  · refine List.map_congr_left fun i hi => ?_
    have hi : i < n := List.mem_range.mp hi
    rw [← Nat.shiftRight_add, show 8 * (n + 1 - 1 - i) = 8 + 8 * (n - 1 - i) by omega]
  · simp

theorem bigEndianValue_concat (b : List Byte) (x : Byte) :
    bigEndianValue (b ++ [x]) = bigEndianValue b * 256 + x.toNat := by simp [bigEndianValue]

theorem bigEndianValue_lt (b : List Byte) : bigEndianValue b < 2 ^ (8 * b.length) := by
  induction b using List.reverseRecOn with
  | nil => decide
  | append_singleton b x ih =>
    have hx := x.isLt
    rw [bigEndianValue_concat, List.length_append, List.length_singleton, Nat.mul_add, Nat.pow_add]
    omega

/-- n bytes that hold v give it back. -/
theorem bigEndianValue_bigEndian {n v : Nat} (h : v < 2 ^ (8 * n)) : bigEndianValue (bigEndian n v) = v := by
  induction n generalizing v with
  | zero => exact (Nat.lt_one_iff.mp h).symm
  | succ n ih =>
    have hshift : v >>> 8 = v / 256 := Nat.shiftRight_eq_div_pow v 8
    have hrest : v >>> 8 < 2 ^ (8 * n) := by
      rw [Nat.mul_add, Nat.pow_add] at h
      omega
    rw [bigEndian_succ, bigEndianValue_concat, ih hrest, hshift, BitVec.toNat_ofNat]
    exact Nat.div_add_mod' v 256

/-! ### leftEncode and leftDecode -/

theorem leftEncode_length (v : Nat) : (leftEncode v).length = byteCount v + 1 := by simp [leftEncode]

/-- The first value byte is what v has above the other bytes, which the byte count keeps between 1 and 255. -/
theorem leftEncode_first_ne_zero {v : Nat} (hv : v < 2 ^ 64) (hpos : 1 ≤ v) : (leftEncode v)[1]? ≠ some 0 := by
  have hlow : 2 ^ (8 * (byteCount v - 1)) ≤ v := by
    rcases (byteCount_pos v).lt_or_eq with hlt | heq
    · exact two_pow_le_of_one_lt_byteCount hlt
    · rwa [← heq]
  have hhigh : v < 2 ^ (8 * (byteCount v - 1)) * 2 ^ 8 := by
    have hcount : 8 * (byteCount v - 1) + 8 = 8 * byteCount v := by have := byteCount_pos v; omega
    rw [← Nat.pow_add, hcount]
    exact lt_two_pow_byteCount hv
  have hge : 0 < v / 2 ^ (8 * (byteCount v - 1)) := Nat.div_pos hlow (Nat.two_pow_pos _)
  have hlt : v / 2 ^ (8 * (byteCount v - 1)) < 2 ^ 8 := Nat.div_lt_of_lt_mul hhigh
  rw [leftEncode, List.getElem?_cons_succ, bigEndian_getElem? v (byteCount_pos v), Nat.sub_zero,
    Nat.shiftRight_eq_div_pow]
  intro h
  have hzero := congrArg BitVec.toNat (Option.some.inj h)
  rw [BitVec.toNat_ofNat, Nat.mod_eq_of_lt hlt] at hzero
  exact hge.ne' hzero

/-- Settles O29: the count is `byteCount`, the least that holds v (`lt_two_pow_byteCount`, `two_pow_le_of_one_lt_byteCount`). -/
theorem leftEncodeIsMinimal : Obligations.LeftEncodeIsMinimal :=
  ⟨by decide, fun v hv => ⟨byteCount v, byteCount_pos v, byteCount_le_eight v, rfl, leftEncode_length v,
    lt_two_pow_byteCount hv, two_pow_le_of_one_lt_byteCount, leftEncode_first_ne_zero hv,
    fun _ hi => bigEndian_getElem? v hi⟩⟩

theorem leftDecode_cons_eq_some_iff {n : Byte} {b : List Byte} {v : Nat} :
    leftDecode (n :: b) = some v ↔
      (1 ≤ n.toNat ∧ n.toNat ≤ 8 ∧ b.length = n.toNat) ∧ bigEndianValue b = v := by
  simp only [leftDecode, Option.ite_none_right_eq_some, Option.some.injEq]

/-- A string that decodes to v holds v in the bytes after its count (41_framing.md R85). -/
theorem lt_two_pow_of_leftDecode {e : List Byte} {v : Nat} (h : leftDecode e = some v) :
    ∃ m, 1 ≤ m ∧ e.length = m + 1 ∧ v < 2 ^ (8 * m) := by
  cases e with
  | nil => cases h
  | cons n b =>
    obtain ⟨⟨hpos, -, hlen⟩, rfl⟩ := leftDecode_cons_eq_some_iff.mp h
    exact ⟨b.length, hlen ▸ hpos, rfl, bigEndianValue_lt b⟩

theorem leftDecode_leftEncode {v : Nat} (h : v < 2 ^ 64) : leftDecode (leftEncode v) = some v := by
  have hle := byteCount_le_eight v
  have hcount : (BitVec.ofNat 8 (byteCount v)).toNat = byteCount v :=
    (BitVec.toNat_ofNat _ 8).trans (Nat.mod_eq_of_lt (by omega))
  refine leftDecode_cons_eq_some_iff.mpr ⟨?_, bigEndianValue_bigEndian (lt_two_pow_byteCount h)⟩
  rw [hcount]
  exact ⟨byteCount_pos v, hle, bigEndian_length _ v⟩

/-- Settles O30: the round trip is that of the value bytes, and no count below `byteCount` holds v. -/
theorem leftDecodeOfLeftEncode : Obligations.LeftDecodeOfLeftEncode := by
  refine ⟨fun n b => ⟨fun hpos hle hlen => ?_, fun hn => if_neg hn⟩, rfl,
    fun v hv => ⟨leftDecode_leftEncode hv, fun e he => ?_⟩⟩
  · simp only [Nat.mul_comm 256]
    exact leftDecode_cons_eq_some_iff.mpr ⟨⟨hpos, hle, hlen⟩, rfl⟩
  · obtain ⟨m, hm, hlen, hlt⟩ := lt_two_pow_of_leftDecode he
    rw [leftEncode_length, hlen]
    exact Nat.succ_le_succ (byteCount_le_of_lt_two_pow hm hlt)

/-! ### bytepad -/

/-- How many zeros bytepad adds to a string of `len` bytes (41_framing.md R86). -/
def padZeros (extra : Bool) (len w : Nat) : Nat :=
  if len % w ≠ 0 then w - len % w else if extra then w else 0

theorem bytepad_eq (extra : Bool) (x : List Byte) (w : Nat) :
    bytepad extra x w = leftEncode w ++ x ++ zeros (padZeros extra (leftEncode w ++ x).length w) := by
  simp only [bytepad, padZeros]
  split_ifs
  · rfl
  · rfl
  · exact (List.append_nil _).symm

theorem add_padZeros_mod (extra : Bool) (len : Nat) {w : Nat} (hw : 1 ≤ w) : (len + padZeros extra len w) % w = 0 := by
  rw [padZeros]
  split_ifs with hmod
  · have hround : len + (w - len % w) = w * (len / w) + w := by
      have := Nat.div_add_mod len w
      have := Nat.mod_lt len hw
      omega
    rw [hround, Nat.add_mod_right, Nat.mul_mod_right]
  · rw [Nat.add_mod_right, not_not.mp hmod]
  · exact not_not.mp hmod

/-- The zeros are the fewest to the next multiple of w. -/
theorem padZeros_lt (len : Nat) {w : Nat} (hw : 1 ≤ w) : padZeros false len w < w := by
  rw [padZeros]
  split
  · omega
  · exact hw

/-- With BYTEPAD_EXTRA_ALIGNED a string that is aligned already is padded by a whole w. -/
theorem padZeros_extra (len : Nat) {w : Nat} (hw : 1 ≤ w) : 1 ≤ padZeros true len w ∧ padZeros true len w ≤ w := by
  have := Nat.mod_lt len hw
  rw [padZeros]
  split
  · omega
  · exact ⟨hw, le_rfl⟩

theorem bytepad_length_mod (extra : Bool) (x : List Byte) {w : Nat} (hw : 1 ≤ w) :
    (bytepad extra x w).length % w = 0 := by
  rw [bytepad_eq, List.length_append, zeros_length]
  exact add_padZeros_mod extra _ hw

/-- Settles O31: the zeros are `padZeros`, and the cursor counts the bytes mod RATE (`Ctx.absorb_cursor`). -/
theorem bytepadAlignsToWidth : Obligations.BytepadAlignsToWidth := by
  refine ⟨fun extra x w hw => ⟨_, bytepad_eq extra x w, bytepad_length_mod extra x hw, ?_, ?_⟩,
    fun extra x p c hcur hr => BitVec.eq_of_toNat_eq ?_⟩
  · rintro rfl
    exact padZeros_lt _ hw
  · rintro rfl
    exact padZeros_extra _ hw
  · have hzero : c.cursor.toNat = 0 := congrArg BitVec.toNat hcur
    rw [Ctx.absorb_cursor p (by omega), hzero, Nat.zero_add]
    exact bytepad_length_mod extra x hr

/-! ### ENC_LEFT and ENC_BYTEPAD -/

/-- Settles O47: leftEncode is never empty, so it goes on offer. -/
theorem encLeftEmitsEncoding : Obligations.EncLeftEmitsEncoding := fun s =>
  ⟨congrArg Host.Outcome.next (State.emit_offers (leftEncode_ne_nil _)),
    by rw [leftEncode_length]; exact Nat.succ_le_succ (byteCount_pos _), leftEncode_length_le _⟩

/-- ENC_BYTEPAD past its checks (41_framing.md R90). -/
theorem exec_encBytepad_inRange {s : State} (h0 : s.a0 ≠ 0) (hw : s.a0.toNat ≤ 2 ^ 32) (hl : s.a1.toNat ≤ 2 ^ 32) :
    exec .encBytepad s = .next (s.dinRead s.a1.toNat fun x s1 =>
      s1.emit 0x11 (bytepad s.params.bytepadExtraAligned x s.a0.toNat)) := by
  have hwidth : ¬(s.a0 = 0 ∨ Config.maxInputLength < s.a0.toNat) := not_or.mpr ⟨h0, hw.not_gt⟩
  exact congrArg _ ((if_neg hwidth).trans (if_neg hl.not_gt))

/-- Settles O48: the checks, then DinRead's two cases (`State.dinRead_short`, `State.dinRead_taken`). -/
theorem encBytepadEmitsPadding : Obligations.EncBytepadEmitsPadding := by
  refine fun s => ⟨fun hbad => congrArg Host.Outcome.next ?_, fun h0 hw hl hshort => ?_, fun x h0 hw hl hx hlen => ?_⟩
  · by_cases hwidth : s.a0 = 0 ∨ Config.maxInputLength < s.a0.toNat
    · exact if_pos hwidth
    · have hlong : Config.maxInputLength < s.a1.toNat := by
        rcases hbad with h | h | h
        · exact absurd (.inl h) hwidth
        · exact absurd (.inr h) hwidth
        · exact h
      exact (if_neg hwidth).trans (if_pos hlong)
  · rw [exec_encBytepad_inRange h0 hw hl, State.dinRead_short hshort]
  · subst hx
    rw [exec_encBytepad_inRange h0 hw hl, State.dinRead_taken hlen, State.emit_offers (bytepad_ne_nil _ _ _)]

end Sys2Proof.Machine
end

section
/-! SUPPORT. The constructions CTX_SHAKE and CTX_CSHAKE (42_cshake.md R93, R94), check by check, and how they meet where N and S
are empty (R96). -/

namespace Sys2Proof.Machine

/-! ### Past the slot check -/

section Level

variable {sa : Nat} {s : State} {r : Byte}

theorem exec_ctxShake_badLevel (h : sa < s.slots.length) (hr : rateOfLevel s.a0 = none) :
    exec (.ctxShake sa) s = .next (s.completed 0x01 .badArg 0) := by
  refine congrArg _ ((State.withSlot_some (List.getElem?_eq_getElem h)).trans ?_)
  simp only [hr]
  rfl

theorem exec_ctxShake_level (h : sa < s.slots.length) (hr : rateOfLevel s.a0 = some r) :
    exec (.ctxShake sa) s = .next ((s.setSlot sa (newShake r)).completed 0x01 .ok 0) := by
  refine congrArg _ ((State.withSlot_some (List.getElem?_eq_getElem h)).trans ?_)
  simp only [hr]
  rfl

theorem exec_ctxCshake_badLevel (h : sa < s.slots.length) (hr : rateOfLevel s.a0 = none) :
    exec (.ctxCshake sa) s = .next (s.completed 0x02 .badArg 0) := by
  refine congrArg _ ((State.withSlot_some (List.getElem?_eq_getElem h)).trans ?_)
  simp only [hr]
  rfl

/-- The length check of N and S, as an equation that both of its cases start from. -/
theorem exec_ctxCshake_level (h : sa < s.slots.length) (hr : rateOfLevel s.a0 = some r) :
    exec (.ctxCshake sa) s = .next (
      if s.params.maxNsLen.val < s.a1.toNat ∨ s.params.maxNsLen.val < s.a2.toNat then s.completed 0x02 .badArg 0
      else s.dinRead (s.a1.toNat + s.a2.toNat) fun d s1 =>
        (s1.setSlot sa (newCshake s.params.perm s.params.bytepadExtraAligned r (d.take s.a1.toNat)
          (d.drop s.a1.toNat))).completed 0x02 .ok 0) := by
  refine congrArg _ ((State.withSlot_some (List.getElem?_eq_getElem h)).trans ?_)
  simp only [hr]
  rfl

theorem exec_ctxCshake_tooLong (h : sa < s.slots.length) (hr : rateOfLevel s.a0 = some r)
    (hlen : s.params.maxNsLen.val < s.a1.toNat ∨ s.params.maxNsLen.val < s.a2.toNat) :
    exec (.ctxCshake sa) s = .next (s.completed 0x02 .badArg 0) := by
  rw [exec_ctxCshake_level h hr, if_pos hlen]

theorem exec_ctxCshake_inRange (h : sa < s.slots.length) (hr : rateOfLevel s.a0 = some r)
    (hn : s.a1.toNat ≤ s.params.maxNsLen.val) (hs : s.a2.toNat ≤ s.params.maxNsLen.val) :
    exec (.ctxCshake sa) s = .next (s.dinRead (s.a1.toNat + s.a2.toNat) fun d s1 =>
      (s1.setSlot sa (newCshake s.params.perm s.params.bytepadExtraAligned r (d.take s.a1.toNat)
        (d.drop s.a1.toNat))).completed 0x02 .ok 0) := by
  rw [exec_ctxCshake_level h hr, if_neg (not_or.mpr ⟨hn.not_gt, hs.not_gt⟩)]

end Level

theorem rateOfLevel_exists {a : Reg} (h : a = 128 ∨ a = 256) : ∃ r, rateOfLevel a = some r := by
  rcases h with rfl | rfl
  · exact ⟨_, rateOfLevel_some (.inl ⟨rfl, rfl⟩)⟩
  · exact ⟨_, rateOfLevel_some (.inr ⟨rfl, rfl⟩)⟩

/-! ### Their errors in order and the contexts they build -/

/-- Settles O38: the two checks, then `newShake` of the level's rate. -/
theorem ctxShakeBuildsPlainContext : Obligations.CtxShakeBuildsPlainContext := fun _ _ =>
  ⟨fun hn => exec_badSlot (.head _) hn, fun h h1 h2 => exec_ctxShake_badLevel h (rateOfLevel_none h1 h2),
    fun _ h hr => exec_ctxShake_level h (rateOfLevel_some hr)⟩

/-- Settles O39: the checks, then DinRead's two cases; the bytes taken are N and then S, which A1 splits again. -/
theorem ctxCshakeBuildsCustomContext : Obligations.CtxCshakeBuildsCustomContext := by
  refine fun sa s => ⟨fun hn => exec_badSlot (.head _) hn,
    fun h h1 h2 => exec_ctxCshake_badLevel h (rateOfLevel_none h1 h2), fun h hlevel hlong => ?_,
    fun h hlevel hn hs hshort => ?_, fun r n cust h hr hn hs htaken hlenN hlenS => ?_⟩
  · obtain ⟨r, hr⟩ := rateOfLevel_exists hlevel
    exact exec_ctxCshake_tooLong h hr hlong
  · obtain ⟨r, hr⟩ := rateOfLevel_exists hlevel
    rw [exec_ctxCshake_inRange h hr hn hs, State.dinRead_short hshort]
  · have hall : s.dinTaken.length = s.a1.toNat + s.a2.toNat := by
      rw [htaken, List.length_append, hlenN, hlenS]
    rw [exec_ctxCshake_inRange h (rateOfLevel_some hr) hn hs, State.dinRead_taken hall, htaken,
      List.take_left' hlenN, List.drop_left' hlenN]
    rfl

/-! ### Empty customization -/

/-- With N and S empty the construction is plain SHAKE's (42_cshake.md R96). -/
@[simp] theorem newCshake_nil (p : PermChoice) (extra : Bool) (r : Byte) : newCshake p extra r [] [] = newShake r := rfl

/-- With A1 = A2 = 0 no length check fails and DinRead does not wait. -/
theorem exec_ctxCshake_empty {sa : Nat} {s : State} {r : Byte} (h : sa < s.slots.length)
    (hr : rateOfLevel s.a0 = some r) (h1 : s.a1 = 0) (h2 : s.a2 = 0) :
    exec (.ctxCshake sa) s = .next ((s.setSlot sa (newShake r)).completed 0x02 .ok 0) := by
  have hn : s.a1.toNat = 0 := congrArg BitVec.toNat h1
  have hs : s.a2.toNat = 0 := congrArg BitVec.toNat h2
  rw [exec_ctxCshake_inRange h hr (hn ▸ Nat.zero_le _) (hs ▸ Nat.zero_le _), hn, hs,
    State.dinRead_enough (Nat.zero_le _)]
  simp only [List.take_zero, List.drop_zero, newCshake_nil]

/-- Settles O40: both commands make the same checks in the same order, and `newCshake` of nothing is `newShake`. -/
theorem emptyCustomizationIsPlain : Obligations.EmptyCustomizationIsPlain := by
  intro sa s t h1 h2 ht
  rcases Nat.lt_or_ge sa s.slots.length with h | hn
  · rcases hr : rateOfLevel s.a0 with _ | r
    · rw [exec_ctxShake_badLevel h hr] at ht
      cases ht
      exact exec_ctxCshake_badLevel h hr
    · rw [exec_ctxShake_level h hr] at ht
      cases ht
      exact exec_ctxCshake_empty h hr h1 h2
  · rw [exec_badSlot (i := .ctxShake sa) (.head _) hn] at ht
    cases ht
    exact exec_badSlot (.head _) hn

end Sys2Proof.Machine
end

section
/-! SUPPORT. What a command does to the DRBG registers, and that it reports no ERR_INTERNAL_ABSORB where the live context can
absorb (43_drbg.md R99, R103, R116). -/

namespace Sys2Proof.Machine

/-! ### Absorbs that cannot fail -/

section Absorbs

variable {p : PermChoice} {c : Ctx}

/-- On an absorbing context PrePaddedAbsorb does not fail, and the context stays absorbing (44_drbg_helpers.md R119, R120). -/
theorem prePaddedAbsorb_exists (h : c.dir = .absorbing) (nw : Reg) (d : List Byte) :
    ∃ c' nw', prePaddedAbsorb p c nw d = some (c', nw') ∧ c'.dir = .absorbing := by
  rcases eq_or_ne d [] with rfl | hd
  · exact ⟨c, nw, rfl, h⟩
  refine ⟨_, _, prePaddedAbsorb_absorbing h nw hd, ?_⟩
  split <;> simpa using h

theorem dir_of_prePaddedAbsorb_none {nw : Reg} {d : List Byte} (h : prePaddedAbsorb p c nw d = none) :
    c.dir ≠ .absorbing := by
  intro hdir
  obtain ⟨c', nw', e, -⟩ := prePaddedAbsorb_exists (p := p) hdir nw d
  simp [e] at h

theorem dir_of_prePaddedAbsorb_some {nw nw' : Reg} {d : List Byte} {c' : Ctx}
    (h : prePaddedAbsorb p c nw d = some (c', nw')) (hdir : c.dir = .absorbing) : c'.dir = .absorbing := by
  obtain ⟨c2, nw2, e, h2⟩ := prePaddedAbsorb_exists (p := p) hdir nw d
  obtain ⟨rfl, rfl⟩ : c2 = c' ∧ nw2 = nw' := by simpa [e] using h
  exact h2

/-- Steps 6 and 7 of Generate fail on a squeezing fork alone (43_drbg.md R107). -/
theorem dir_of_evolveFork_none {r k : Nat} {ds : Byte} {nw : Reg} {scratch : List Byte}
    (h : evolveFork p r k ds nw scratch c = none) : c.dir ≠ .absorbing := by
  intro hdir
  simp only [evolveFork, replayFork_absorbing hdir] at h
  exact dir_of_prePaddedAbsorb_none h (by simpa using hdir)

end Absorbs

/-! ### The rules -/

/-- ERR_INTERNAL_ABSORB is neither reported nor pending. -/
structure State.Unfailed (s : State) : Prop where
  err : s.err ≠ .internalAbsorb
  pending : ∀ rest done, s.phase = .dataOut rest done → done.err = .ok

/-- The live context of an active DRBG can absorb (10_state.md R32). -/
def Drbg.Absorbs (d : Drbg) : Prop := d.dstate = .active → d.dlive.dir = .absorbing

theorem Drbg.good.absorbs {d : Drbg} (h : d.good) : d.Absorbs := fun ha => by
  obtain ⟨-, -, hlive, -⟩ := (Drbg.good_iff_of_active ha).mp h
  exact hlive.dir

/-- Everything a command can make of the DRBG registers. -/
inductive Drbg.Change (i : Instr) (s : State) : Drbg → Prop where
  | keeps : Drbg.Change i s s.drbg
  /-- DRBG_GENERATE, DRBG_RESEED and DRBG_RESET move an active DRBG on; a reset that waits or fails keeps DCOUNTER. -/
  | evolves (hi : i = .drbgGenerate ∨ i = .drbgReseed ∨ i = .drbgReset) (live fork : Ctx) (nw n : Reg)
      (hfork : fork = s.drbg.dfork ∨ fork = Ctx.free)
      (hn : n = s.drbg.dcounter ∨ n = 0 ∨ s.drbg.dcounter.toNat ≤ 2 ^ 48 ∧ n = s.drbg.dcounter + 1) :
      Drbg.Change i s { s.drbg with dlive := live, dfork := fork, dnw := nw, dcounter := n }
  | creates (hi : i = .drbgNew) (hs : s.drbg.dstate ≠ .active) (d : Drbg) (hd : d.dstate = .active)
      (hn : d.dcounter = 0) : Drbg.Change i s d
  | destroys (hi : i = .drbgDestroy) (ha : s.drbg.dstate = .active) : Drbg.Change i s Drbg.destroyed
  | setsCounter (hi : i = .drbgTestSetCounter) : Drbg.Change i s { s.drbg with dcounter := s.a0 }
  /-- A checked absorb fails. -/
  | fails (h : ¬s.drbg.Absorbs) : Drbg.Change i s Drbg.destroyed

/-- What command `i`, run in `s`, leaves in `t` of the DRBG registers and of the failure of its absorbs. -/
structure Touches (i : Instr) (s t : State) : Prop where
  drbg : Drbg.Change i s t.drbg
  unfailed : s.drbg.Absorbs → s.err ≠ .internalAbsorb → t.Unfailed

section Rules

variable {i : Instr} {s u t : State} {op : Byte}

theorem State.Unfailed.of_eq (h : s.Unfailed) (he : t.err = s.err) (hp : t.phase = s.phase) : t.Unfailed :=
  ⟨he ▸ h.err, hp ▸ h.pending⟩

theorem State.Unfailed.complete {done : Completion} (h : done.err ≠ .internalAbsorb) : (s.complete done).Unfailed :=
  ⟨h, nofun⟩

theorem State.Unfailed.doutWrite {done : Completion} (h : s.err ≠ .internalAbsorb) (hd : done.err = .ok)
    (b : List Byte) : (s.doutWrite b done).Unfailed := by
  rcases eq_or_ne b [] with rfl | hb
  · exact .complete (by simp [hd])
  · rw [State.doutWrite_offers hb]
    exact ⟨h, fun _ _ e => by cases e; exact hd⟩

theorem Touches.fails (h : ¬s.drbg.Absorbs) (hd : t.drbg = Drbg.destroyed) : Touches i s t :=
  ⟨hd ▸ .fails h, fun ha => absurd ha h⟩

/-- The bound on the reported status is closed where the command is known. -/
theorem Touches.complete {done : Completion} (h : Drbg.Change i s u.drbg)
    (hd : done.err ≠ .internalAbsorb := by nofun) : Touches i s (u.complete done) :=
  ⟨h, fun _ _ => .complete hd⟩

theorem Touches.emit {b : List Byte} (h : Drbg.Change i s u.drbg) (he : u.err = s.err) : Touches i s (u.emit op b) :=
  ⟨by rw [State.emit, State.doutWrite_drbg]; exact h, fun _ hs => .doutWrite (he ▸ hs) rfl b⟩

theorem Touches.dinRead {n : Nat} {k : List Byte → State → State} (h : Drbg.Change i s u.drbg) (he : u.err = s.err)
    (hk : ∀ d, Touches i s (k d u)) : Touches i s (u.dinRead n k) := by
  rcases u.dinRead_cases n k with ⟨-, e⟩ | ⟨-, e⟩ <;> rw [e]
  · exact hk _
  · exact ⟨h, fun _ hs => ⟨he ▸ hs, nofun⟩⟩

theorem Touches.withSlot {j : Nat} {k : Ctx → State} (hk : ∀ c, Touches i s (k c)) :
    Touches i s (s.withSlot op j k) := by
  simp only [State.withSlot]
  split
  · exact .complete .keeps
  · exact hk _

theorem Touches.withBuiltSlot {j : Nat} {k : Ctx → State} (hk : ∀ c, Touches i s (k c)) :
    Touches i s (s.withBuiltSlot op j k) := by
  refine .withSlot fun c => ?_
  split
  · exact hk c
  · exact .complete .keeps

theorem Touches.withActive (ht : s.drbg.dstate = .active → Touches i s t) : Touches i s (s.withActive op t) := by
  simp only [State.withActive]
  split
  · exact .complete .keeps
  · exact .complete .keeps
  · next ha => exact ht ha

/-- Absorbing a seed: what the registers are then is the caller's to say, and it fails on a squeezing live context alone. -/
theorem Touches.absorbSeed {seed : List Byte} (hdir : s.drbg.Absorbs → u.drbg.dlive.dir = .absorbing)
    (h : ∀ live nw, Drbg.Change i s { u.drbg with dlive := live, dnw := nw, dcounter := 0 }) :
    Touches i s (u.absorbSeed op seed) := by
  simp only [State.absorbSeed]
  split
  · next hnone => exact .fails (fun ha => dir_of_prePaddedAbsorb_none hnone (hdir ha)) rfl
  · exact .complete (h _ _)

/-- Steps 3 to 8 of Generate: both absorbs fail on a squeezing live context alone. -/
theorem Touches.runGenerate {add : List Byte} (hi : i = .drbgGenerate) (ha : s.drbg.dstate = .active)
    (hn : s.drbg.dcounter.toNat ≤ 2 ^ 48) : Touches i s (s.runGenerate op add) := by
  simp only [State.runGenerate]
  split
  · next hnone => exact .fails (fun habs => dir_of_prePaddedAbsorb_none hnone (habs ha)) rfl
  · next live nw hsome =>
    split
    · next hnone =>
      exact .fails (fun habs => dir_of_evolveFork_none hnone (dir_of_prePaddedAbsorb_some hsome (habs ha)))
        (State.doutWrite_drbg _ _ _)
    · exact .emit (.evolves (.inl hi) _ _ _ _ (.inr rfl) (.inr (.inr ⟨hn, rfl⟩))) rfl

end Rules

/-! ### Every command -/

/-- What every command touches, put together from the rules. -/
theorem exec_touches {i : Instr} {s t : State} (h : exec i s = .next t) : Touches i s t := by
  cases i with
  | ctxShake sa =>
    cases h
    refine .withSlot fun _ => ?_
    split
    · exact .complete .keeps
    · exact .complete .keeps
  | ctxCshake sa =>
    cases h
    refine .withSlot fun _ => ?_
    split
    · exact .complete .keeps
    · split_ifs
      · exact .complete .keeps
      · exact .dinRead .keeps rfl fun d => .complete .keeps
  | ctxAbsorb sa =>
    cases h
    refine .withBuiltSlot fun _ => ?_
    split
    · exact .complete .keeps
    · exact .dinRead .keeps rfl fun d => .complete .keeps
  | ctxSqueeze sa => cases h; exact .withBuiltSlot fun _ => .emit .keeps rfl
  | ctxClone dst src =>
    cases h
    refine .withSlot fun _ => .withBuiltSlot fun _ => ?_
    split_ifs
    · exact .complete .keeps
    · exact .complete .keeps
  | ctxReset sa => cases h; exact .withBuiltSlot fun _ => .complete .keeps
  | ctxFree sa => cases h; exact .withSlot fun _ => .complete .keeps
  | ctxStatus sa => cases h; exact .withSlot fun _ => .complete .keeps
  | encLeft => cases h; exact .emit .keeps rfl
  | encBytepad =>
    cases h
    split_ifs
    · exact .complete .keeps
    · exact .complete .keeps
    · exact .dinRead .keeps rfl fun x => .emit .keeps rfl
  | drbgNew =>
    cases h
    split
    · exact .complete .keeps
    · next hs =>
      split
      · exact .complete .keeps
      · split
        · exact .dinRead .keeps rfl fun seed => .absorbSeed (fun _ => rfl) fun live nw => .creates rfl hs _ rfl rfl
        · exact .complete .keeps
  | drbgGenerate =>
    cases h
    refine .withActive fun ha => ?_
    split_ifs with hn
    · exact .complete .keeps
    · exact .complete .keeps
    · exact .dinRead .keeps rfl fun add => .runGenerate rfl ha (Nat.not_lt.mp hn)
  | drbgReseed =>
    cases h
    refine .withActive fun ha => ?_
    split_ifs
    · exact .dinRead .keeps rfl fun seed => .absorbSeed (fun habs => habs ha) fun live nw =>
        .evolves (.inr (.inl rfl)) _ _ _ _ (.inl rfl) (.inr (.inl rfl))
    · exact .complete .keeps
  | drbgReset =>
    cases h
    refine .withActive fun ha => ?_
    have hreset : Drbg.Change .drbgReset s s.rebuildLive.drbg :=
      .evolves (.inr (.inr rfl)) _ _ _ _ (.inl rfl) (.inl rfl)
    obtain ⟨-, -, -, hdir, -⟩ := s.drbg.dlive.resetCtx_keeps s.params.perm s.params.bytepadExtraAligned
    split_ifs
    · exact .dinRead hreset rfl fun seed => .absorbSeed (fun _ => hdir) fun live nw =>
        .evolves (.inr (.inr rfl)) _ _ _ _ (.inl rfl) (.inr (.inl rfl))
    · exact .complete hreset
  | drbgDestroy =>
    cases h
    split
    · next ha => exact .complete (.destroys rfl ha)
    · exact .complete .keeps
    · exact .complete .keeps
  | drbgNeedReseed => cases h; exact .withActive fun _ => .complete .keeps
  | drbgReadField =>
    cases h
    split
    · exact .complete .keeps
    · exact .complete .keeps
  | drbgTestSetCounter =>
    cases h
    split_ifs
    · exact .withActive fun _ => .complete (.setsCounter rfl)
    · exact .complete .keeps
  | diagOffset =>
    cases h
    split_ifs
    · exact .complete .keeps
    · exact .dinRead .keeps rfl fun d => .complete .keeps
  | diagRemix => cases h; exact .dinRead .keeps rfl fun w => .emit .keeps rfl

/-! ### No step reports ERR_INTERNAL_ABSORB -/

section Steps

variable {s t : State}

theorem State.Unfailed.runCommand (h : s.Unfailed) (hd : s.drbg.good) (he : s.runCommand = .next t) : t.Unfailed := by
  simp only [State.runCommand] at he
  split at he
  · exact (exec_touches he).unfailed hd.absorbs h.err
  · cases he; exact .complete nofun

theorem State.Unfailed.dinTransfer (h : s.Unfailed) (taken : List Byte) (need : Nat) :
    (s.dinTransfer taken need).Unfailed := by
  rcases s.dinTransfer_cases taken need with ⟨d, rest, -, -, e⟩ | ⟨-, e⟩ <;> rw [e]
  · exact ⟨h.err, nofun⟩
  · exact ⟨h.err, nofun⟩

/-- The output that is pending completes OK. -/
theorem State.Unfailed.doutTransfer {rest : List Byte} {done : Completion} (h : s.Unfailed)
    (hp : s.phase = .dataOut rest done) : (s.doutTransfer rest done).Unfailed := by
  have hdone : done.err = .ok := h.pending rest done hp
  rcases s.doutTransfer_cases rest done with ⟨-, e⟩ | ⟨-, e⟩ <;> rw [e]
  · exact .complete (by simp [hdone])
  · exact ⟨h.err, fun _ _ e => by cases e; exact hdone⟩

theorem State.Unfailed.engineMove (h : s.Unfailed) (hd : s.drbg.good) (he : s.engineMove = .next t) : t.Unfailed := by
  rcases s.engineMove_cases with ⟨-, e⟩ | ⟨-, -, e⟩ | ⟨-, taken, need, -, e⟩ | ⟨-, rest, done, hp, e⟩ <;>
    rw [e] at he
  · cases he; exact h
  · exact h.runCommand hd he
  · cases he; exact h.dinTransfer taken need
  · cases he; exact h.doutTransfer hp

theorem State.Unfailed.hostMove (h : s.Unfailed) (a : HostAction) : (s.hostMove a).Unfailed := by
  cases a with
  | writeCmd w =>
    simp only [State.hostMove, State.writeCmd]
    split_ifs
    · exact h
    · exact h
    · exact ⟨h.err, nofun⟩
  | writeArg n v =>
    simp only [State.hostMove]
    split_ifs
    · exact h
    · match n with
      | 0 | 1 | 2 => exact h.of_eq rfl rfl
  | readReg r => exact h
  | offerDin bytes => exact h.of_eq rfl rfl
  | takeDout n => exact h.of_eq rfl rfl
  | setRst level =>
    rcases level with _ | _
    · exact h.of_eq rfl rfl
    · exact ⟨nofun, nofun⟩

/-- Settles O14: where the DRBG invariant holds the live context can absorb, so no absorb of a command fails (`exec_touches`),
and the other moves report no error of their own. -/
theorem internalAbsorbNeverReported : Obligations.InternalAbsorbNeverReported := by
  intro s t hinv herr hpending he
  have h : s.Unfailed := ⟨herr, hpending⟩
  suffices ht : t.Unfailed from ⟨ht.err, ht.pending⟩
  rcases step_cases s with ⟨a, ts, -, e⟩ | ⟨-, e⟩ <;> rw [e] at he
  · cases he
    exact State.Unfailed.hostMove (s := { s with turns := ts }) (h.of_eq rfl rfl) a
  · exact State.Unfailed.engineMove (s := { s with turns := s.turns.tail }) (h.of_eq rfl rfl) hinv.drbgGood he

end Steps

/-! ### The life cycle, the frame and the counter -/

section Change

variable {i : Instr} {s : State} {d : Drbg}

/-- ACTIVE is left by DRBG_DESTROY alone (43_drbg.md R99). -/
theorem Drbg.Change.of_active (h : Drbg.Change i s d) (habs : s.drbg.Absorbs) (ha : s.drbg.dstate = .active) :
    d.dstate = .active ∨ (i = .drbgDestroy ∧ d.dstate = .destroyed) := by
  cases h with
  | keeps | evolves | setsCounter => exact .inl ha
  | creates _ hs => exact absurd ha hs
  | destroys hi => exact .inr ⟨hi, rfl⟩
  | fails hbad => exact absurd habs hbad

/-- EMPTY and DESTROYED are left by DRBG_NEW alone (43_drbg.md R99). -/
theorem Drbg.Change.of_inactive (h : Drbg.Change i s d) (habs : s.drbg.Absorbs) (hs : s.drbg.dstate ≠ .active) :
    d.dstate = s.drbg.dstate ∨ (i = .drbgNew ∧ d.dstate = .active) := by
  cases h with
  | keeps | evolves | setsCounter => exact .inl rfl
  | creates hi _ _ hd => exact .inr ⟨hi, hd⟩
  | destroys _ ha => exact absurd ha hs
  | fails hbad => exact absurd habs hbad

/-- The commands that move an active DRBG on write DLIVE, DNW and DCOUNTER; the fork Generate zeroes was zero before. -/
theorem Drbg.Change.frame_of_evolving (h : Drbg.Change i s d) (hgood : s.drbg.good)
    (hi : i = .drbgGenerate ∨ i = .drbgReseed ∨ i = .drbgReset) :
    d = { s.drbg with dlive := d.dlive, dnw := d.dnw, dcounter := d.dcounter } := by
  cases h with
  | keeps => rfl
  | evolves _ live fork nw n hfork =>
    obtain ⟨-, -, -, -, hfree⟩ := hgood
    obtain rfl : fork = s.drbg.dfork := hfork.elim id fun e => e.trans hfree.symm
    rfl
  | creates hnew | destroys hnew | setsCounter hnew => subst hnew; simp at hi
  | fails hbad => exact absurd hgood.absorbs hbad

/-- DRBG_TEST_SET_COUNTER writes DCOUNTER alone (43_drbg.md R115). -/
theorem Drbg.Change.frame_of_testSetCounter (h : Drbg.Change .drbgTestSetCounter s d) (habs : s.drbg.Absorbs) :
    d = { s.drbg with dcounter := d.dcounter } := by
  cases h with
  | keeps | setsCounter => rfl
  | evolves hi => simp at hi
  | creates hi | destroys hi => cases hi
  | fails hbad => exact absurd habs hbad

/-- DCOUNTER advances only where Generate's check found it at most 2^48 (43_drbg.md R103). -/
theorem Drbg.Change.dcounter_le (h : Drbg.Change i s d) (hi : i ≠ .drbgTestSetCounter)
    (hle : s.drbg.dcounter.toNat ≤ 2 ^ 48 + 1) : d.dcounter.toNat ≤ 2 ^ 48 + 1 := by
  cases h with
  | keeps => exact hle
  | evolves _ live fork nw n _ hn =>
    rcases hn with rfl | rfl | ⟨hlow, rfl⟩
    · exact hle
    · exact Nat.zero_le _
    · have hone : (s.drbg.dcounter + 1).toNat = s.drbg.dcounter.toNat + 1 :=
        BitVec.toNat_add_of_lt (by simp; omega)
      exact hone ▸ Nat.succ_le_succ hlow
  | creates _ _ _ _ h0 => simp [h0]
  | destroys | fails => exact Nat.zero_le _
  | setsCounter e => exact absurd e hi

end Change

/-- Settles O17: `Drbg.Change.of_active` and `Drbg.Change.of_inactive`, since under the invariant no absorb fails. -/
theorem drbgLifeCycle : Obligations.DrbgLifeCycle := by
  intro i s t hgood h
  have hchange := (exec_touches h).drbg
  have hinactive := hchange.of_inactive hgood.absorbs
  refine ⟨hchange.of_active hgood.absorbs, fun hs => ?_, fun hs => ?_⟩
  · simpa [hs] using hinactive
  · simpa [hs] using hinactive

/-- Settles O24: a command's frame, no slot written outside the slot commands, and the frame of each change of the registers. -/
theorem drbgCommandFrame : Obligations.DrbgCommandFrame := by
  intro i s t hlow _ hgood h
  have hchange := (exec_touches h).drbg
  have hslots : t.slots = s.slots := by
    rcases exec_slots h with e | ⟨c, -, hlt⟩
    · exact e
    · omega
  refine ⟨exec_params h, exec_cmd h, exec_arg0 h, exec_arg1 h, exec_arg2 h, exec_a0 h, exec_a1 h, exec_a2 h, hslots,
    exec_rst h, exec_turns h, hchange.frame_of_evolving hgood, fun hi => ?_⟩
  subst hi
  exact hchange.frame_of_testSetCounter hgood.absorbs

/-- Settles O37: of the changes of DCOUNTER only Generate's adds to it, past its own check. -/
theorem counterStaysBounded : Obligations.CounterStaysBounded := fun _ _ _ hi hle h =>
  (exec_touches h).drbg.dcounter_le hi hle

end Sys2Proof.Machine
end

section
/-! SUPPORT. The DRBG commands that refuse, wait or answer at once (43_drbg.md R100, R107, R112 to R115), check by check. -/

namespace Sys2Proof.Machine

/-! ### InstanceOK -/

/-- Settles O50: InstanceOK is the first check, after TEST_MODE in the hook. -/
theorem inactiveInstanceRejects : Obligations.InactiveInstanceRejects := by
  rintro i s (rfl | rfl | rfl | rfl | ⟨rfl, htest⟩)
  case inr.inr.inr.inr =>
    exact ⟨fun h => congrArg _ ((if_pos htest).trans (State.withActive_empty h)),
      fun h => congrArg _ ((if_pos htest).trans (State.withActive_destroyed h))⟩
  all_goals exact ⟨fun h => congrArg _ (State.withActive_empty h), fun h => congrArg _ (State.withActive_destroyed h)⟩

/-! ### DRBG_GENERATE up to its DinRead -/

section Generate

variable {s : State}

/-- Step 1 of Generate: the reseed interval (43_drbg.md R107). -/
theorem exec_drbgGenerate_reseedRequired (ha : s.drbg.dstate = .active) (h : 2 ^ 48 < s.drbg.dcounter.toNat) :
    exec .drbgGenerate s = .next (s.completed 0x21 .reseedRequired 0) :=
  congrArg _ ((State.withActive_active ha).trans (if_pos h))

/-- Below the interval the lengths are checked, as an equation that both outcomes start from (43_drbg.md R107). -/
theorem exec_drbgGenerate_reseeded (ha : s.drbg.dstate = .active) (h : s.drbg.dcounter.toNat ≤ 2 ^ 48) :
    exec .drbgGenerate s = .next (
      if s.a0 = 0 ∨ s.params.maxRequest < s.a0.toNat ∨ 2 ^ 32 < s.a1.toNat then s.completed 0x21 .validation 0
      else s.dinRead s.a1.toNat fun add s1 => s1.runGenerate 0x21 add) :=
  congrArg _ ((State.withActive_active ha).trans (if_neg h.not_gt))

theorem exec_drbgGenerate_inRange (ha : s.drbg.dstate = .active) (h : s.drbg.dcounter.toNat ≤ 2 ^ 48) (h0 : s.a0 ≠ 0)
    (hmax : s.a0.toNat ≤ s.params.maxRequest) (hadd : s.a1.toNat ≤ 2 ^ 32) :
    exec .drbgGenerate s = .next (s.dinRead s.a1.toNat fun add s1 => s1.runGenerate 0x21 add) := by
  rw [exec_drbgGenerate_reseeded ha h, if_neg (not_or.mpr ⟨h0, not_or.mpr ⟨hmax.not_gt, hadd.not_gt⟩⟩)]

/-- Settles O53: the two checks, then DinRead with too few bytes. -/
theorem drbgGenerateRefusals : Obligations.DrbgGenerateRefusals := by
  refine fun s ha => ⟨exec_drbgGenerate_reseedRequired ha, fun h hbad => ?_, fun h h0 hmax hadd hshort => ?_⟩
  · rw [exec_drbgGenerate_reseeded ha h, if_pos hbad]
  · rw [exec_drbgGenerate_inRange ha h h0 hmax hadd, State.dinRead_short hshort]

/-- A DoutWrite that completes at once reports its own completion. -/
theorem State.doutWrite_err_of_idle {b : List Byte} {done : Completion} (h : (s.doutWrite b done).phase = .idle) :
    (s.doutWrite b done).err = done.err := by
  rcases eq_or_ne b [] with rfl | hb
  · rfl
  · rw [State.doutWrite_offers hb] at h; cases h

/-- Past its first check Generate does not ask for a reseed. -/
theorem exec_drbgGenerate_ne_reseedRequired (ha : s.drbg.dstate = .active) (h : s.drbg.dcounter.toNat ≤ 2 ^ 48) :
    exec .drbgGenerate s ≠ .next (s.completed 0x21 .reseedRequired 0) := by
  rw [exec_drbgGenerate_reseeded ha h]
  intro hnext
  have e := Host.Outcome.next.inj hnext
  split at e
  · exact absurd (congrArg State.err e) nofun
  · rcases s.dinRead_cases s.a1.toNat fun add s1 => s1.runGenerate 0x21 add with ⟨-, e2⟩ | ⟨-, e2⟩ <;> rw [e2] at e
    · obtain ⟨drbg, b, done, hend, e3⟩ := runGenerate_ends (s := s) (s.dinTaken.take s.a1.toNat)
      have e4 := e3.symm.trans e
      have herr : done.err = .reseedRequired :=
        (State.doutWrite_err_of_idle (congrArg State.phase e4)).symm.trans (congrArg State.err e4)
      rcases hend.err with hok | ⟨hfail, -⟩
      · exact absurd (hok.symm.trans herr) nofun
      · exact absurd (hfail.symm.trans herr) nofun
    · exact absurd (congrArg State.phase e) nofun

end Generate

/-! ### DRBG_NEED_RESEED -/

/-- DRBG_NEED_RESEED makes the comparison of Generate's first check (43_drbg.md R113). -/
theorem exec_drbgNeedReseed_active {s : State} (ha : s.drbg.dstate = .active) :
    exec .drbgNeedReseed s = .next (s.completed 0x25 .ok (if 2 ^ 48 < s.drbg.dcounter.toNat then 1 else 0)) :=
  congrArg _ (State.withActive_active ha)

/-- Settles O56: RESULT and the refusal follow the same comparison. -/
theorem drbgNeedReseedPredictsRefusal : Obligations.DrbgNeedReseedPredictsRefusal := by
  intro s
  obtain ⟨hempty, hdestroyed⟩ := inactiveInstanceRejects .drbgNeedReseed s (by simp)
  refine ⟨hempty, hdestroyed, fun ha h => ?_, fun ha h => ?_⟩ <;> rw [exec_drbgNeedReseed_active ha]
  · rw [if_pos h]
    exact ⟨rfl, exec_drbgGenerate_reseedRequired ha h⟩
  · rw [if_neg h.not_gt]
    exact ⟨rfl, exec_drbgGenerate_ne_reseedRequired ha h⟩

/-! ### DRBG_DESTROY -/

/-- Settles O55: DestroyInstance on an active DRBG, and no change on the other two states. -/
theorem drbgDestroyClearsRegisters : Obligations.DrbgDestroyClearsRegisters := by
  refine fun s => ⟨fun ha => ?_, fun hs => ?_⟩
  · simp only [exec, execDrbgDestroy, ha]
    rfl
  · rcases hd : s.drbg.dstate with _ | _ | _
    · simp only [exec, execDrbgDestroy, hd]
      rfl
    · exact absurd hd hs
    · simp only [exec, execDrbgDestroy, hd]
      rfl

/-! ### DRBG_READ_FIELD -/

theorem exec_drbgReadField_some {s : State} {v : Reg} (h : s.drbg.field s.a0.toNat = some v) :
    exec .drbgReadField s = .next (s.completed 0x26 .ok v) := by
  simp only [exec, execDrbgReadField, h]
  rfl

theorem exec_drbgReadField_none {s : State} (h : s.drbg.field s.a0.toNat = none) :
    exec .drbgReadField s = .next (s.completed 0x26 .badArg 0) := by
  simp only [exec, execDrbgReadField, h]
  rfl

/-- There are six fields (43_drbg.md R114). -/
theorem Drbg.field_of_lt (d : Drbg) {n : Nat} (h : 5 < n) : d.field n = none := by
  match n with
  | n + 6 => rfl

/-- Settles O57: the field each index names. -/
theorem drbgReadFieldReadsRegisters : Obligations.DrbgReadFieldReadsRegisters := by
  intro s
  refine ⟨fun h => exec_drbgReadField_none (s.drbg.field_of_lt h), fun h => exec_drbgReadField_some ?_,
    fun h => exec_drbgReadField_some ?_, fun h => exec_drbgReadField_some ?_, fun h => exec_drbgReadField_some ?_,
    fun h => exec_drbgReadField_some ?_, fun h => exec_drbgReadField_some ?_⟩ <;> rw [h]
  · simp only [Drbg.field]
    cases s.drbg.dstate <;> rfl
  · rfl
  · rfl
  · rfl
  · rfl
  · simp only [Drbg.field]
    cases s.drbg.dhasctx <;> rfl

/-! ### DRBG_TEST_SET_COUNTER -/

/-- Settles O58: the strap, then InstanceOK, then the write of DCOUNTER. -/
theorem drbgTestSetCounterNeedsStrap : Obligations.DrbgTestSetCounterNeedsStrap := by
  refine fun s => ⟨fun h => congrArg _ (if_neg (by simp [h])), fun h hs => ?_, fun h hs => ?_, fun h ha => ?_⟩
  · exact (inactiveInstanceRejects .drbgTestSetCounter s (by simp [h])).1 hs
  · exact (inactiveInstanceRejects .drbgTestSetCounter s (by simp [h])).2 hs
  · exact congrArg _ ((if_pos h).trans (State.withActive_active ha))

end Sys2Proof.Machine
end

section
/-! SUPPORT. The pre-padded absorb of a live context as one plain absorb (44_drbg_helpers.md R120), and the commands that
absorb a seed (43_drbg.md R104 to R106). -/

namespace Sys2Proof.Machine

/-! ### PrePaddedAbsorb from a rate boundary -/

section Padded

variable (p : PermChoice) {c : Ctx} {r : Byte}

/-- Zeros from a cursor to the next boundary, none at a boundary (44_drbg_helpers.md R120). -/
theorem Ctx.absorb_toBoundary (h : c.cursor.toNat < c.rate.toNat) :
    (if c.cursor = 0 then c else c.absorb p (zeros (c.rate.toNat - c.cursor.toNat))) =
      c.absorb p (zeros ((c.rate.toNat - c.cursor.toNat) % c.rate.toNat)) := by
  split
  · next h0 => simp [h0, zeros]
  · next h0 =>
    have hpos : 0 < c.cursor.toNat := Nat.pos_of_ne_zero fun e => h0 (BitVec.eq_of_toNat_eq e)
    rw [Nat.mod_eq_of_lt (by omega)]

/-- On a live context PrePaddedAbsorb is one plain absorb of the padded data (44_drbg_helpers.md R120). -/
theorem Ctx.Live.prePaddedAbsorb_eq (h : c.Live r) (hr : 0 < r.toNat) (nw : Reg) (d : List Byte) :
    prePaddedAbsorb p c nw d = some (absorbPadded p c nw d, nw + if d = [] then 0 else 1) := by
  rcases eq_or_ne d [] with rfl | hd
  · simp [absorbPadded]
  have hlt := Ctx.absorb_cursor_lt p (c := c) (by rw [h.cursor, h.rate]; exact hr)
    (zeros (deriveOffset d nw).toNat ++ d)
  have hboundary := Ctx.absorb_toBoundary p (c := c.absorb p (zeros (deriveOffset d nw).toNat ++ d))
    (by rw [Ctx.absorb_rate]; exact hlt)
  rw [Ctx.absorb_rate] at hboundary
  rw [prePaddedAbsorb_absorbing h.dir nw hd, hboundary, if_neg hd, absorbPadded, if_neg hd, padded,
    c.absorb_append p (_ ++ d), h.rate, h.absorb_cursor p hr, List.length_append, zeros_length]

theorem Ctx.Live.absorbPadded_keeps (h : c.Live r) (hr : 0 < r.toNat) (nw : Reg) (d : List Byte) :
    (absorbPadded p c nw d).Live r := by
  obtain ⟨c', nw', e, hlive⟩ := h.prePaddedAbsorb_keeps p hr nw d
  rw [h.prePaddedAbsorb_eq p hr] at e
  cases e
  exact hlive

end Padded

/-! ### Absorbing a seed -/

section Seed

variable {s : State} {op : Byte} {r : Byte} {seed : List Byte}

/-- The last lines of the three seed commands, on a live context (43_drbg.md R104 to R106). -/
theorem State.absorbSeed_live (h : s.drbg.dlive.Live r) (hr : 0 < r.toNat) (hseed : seed ≠ []) :
    s.absorbSeed op seed = State.completed
      { s with
        drbg := { s.drbg with
          dlive := absorbPadded s.params.perm s.drbg.dlive s.drbg.dnw seed, dnw := s.drbg.dnw + 1, dcounter := 0 } }
      op .ok 0 := by
  simp only [State.absorbSeed, h.prePaddedAbsorb_eq s.params.perm hr, if_neg hseed]
  rfl

theorem not_seedLenOk {len : Nat} {sl : Byte} (h : len < sl.toNat / 2 ∨ 2 ^ 32 < len) :
    ¬seedLenOk len sl = true := by
  rw [seedLenOk_iff]; omega

/-- A seed that passes SeedLenOK is not empty (43_drbg.md R101, R102). -/
theorem Drbg.profiled.seed_ne_nil {d : Drbg} (h : d.profiled) (hlen : d.dseedlen.toNat / 2 ≤ seed.length) : seed ≠ [] := by
  rintro rfl
  rcases h with ⟨-, hsl⟩ | ⟨-, hsl⟩ <;> simp [hsl] at hlen

end Seed

/-! ### DRBG_RESEED -/

section Commands

variable {s : State}

theorem exec_drbgReseed_inRange (ha : s.drbg.dstate = .active) (hlow : s.drbg.dseedlen.toNat / 2 ≤ s.a0.toNat)
    (hhigh : s.a0.toNat ≤ 2 ^ 32) :
    exec .drbgReseed s = .next (s.dinRead s.a0.toNat fun seed s1 => s1.absorbSeed 0x22 seed) :=
  congrArg _ ((State.withActive_active ha).trans (if_pos (seedLenOk_iff.mpr ⟨hlow, hhigh⟩)))

/-- Settles O51: InstanceOK, the length check, DinRead's two cases, and the absorb on the live context. -/
theorem drbgReseedAbsorbsSeed : Obligations.DrbgReseedAbsorbsSeed := by
  intro s hgood
  obtain ⟨hempty, hdestroyed⟩ := inactiveInstanceRejects .drbgReseed s (by simp)
  refine ⟨hempty, hdestroyed, fun ha hbad => ?_, fun ha hlow hhigh hshort => ?_,
    fun seed ha hlow hhigh htaken hlen => ?_⟩
  · exact congrArg _ ((State.withActive_active ha).trans (if_neg (not_seedLenOk hbad)))
  · rw [exec_drbgReseed_inRange ha hlow hhigh, State.dinRead_short hshort]
  · obtain ⟨hprof, -, hlive, -⟩ := (Drbg.good_iff_of_active ha).mp hgood
    subst htaken
    rw [exec_drbgReseed_inRange ha hlow hhigh, State.dinRead_taken hlen,
      State.absorbSeed_live hlive hprof.rate_pos (hprof.seed_ne_nil (hlen ▸ hlow))]

/-! ### DRBG_RESET -/

theorem exec_drbgReset_badLength (ha : s.drbg.dstate = .active)
    (hbad : s.a0.toNat < s.drbg.dseedlen.toNat / 2 ∨ 2 ^ 32 < s.a0.toNat) :
    exec .drbgReset s = .next (s.rebuildLive.completed 0x23 .validation 0) :=
  congrArg _ ((State.withActive_active ha).trans (if_neg (not_seedLenOk hbad)))

theorem exec_drbgReset_inRange (ha : s.drbg.dstate = .active) (hlow : s.drbg.dseedlen.toNat / 2 ≤ s.a0.toNat)
    (hhigh : s.a0.toNat ≤ 2 ^ 32) :
    exec .drbgReset s = .next (s.rebuildLive.dinRead s.a0.toNat fun seed s1 => s1.absorbSeed 0x23 seed) :=
  congrArg _ ((State.withActive_active ha).trans (if_pos (seedLenOk_iff.mpr ⟨hlow, hhigh⟩)))

/-- A plain live context is rebuilt to the blank one (43_drbg.md R106). -/
theorem State.rebuildLive_plain (h : s.drbg.dlive.ib = []) :
    s.rebuildLive =
      { s with drbg := { s.drbg with
          dlive := { s.drbg.dlive with lanes := Vector.replicate 25 0, cursor := 0, dir := .absorbing } } } := by
  rw [State.rebuildLive, Ctx.resetCtx_plain _ _ _ h]
  rfl

/-- Settles O52: DRBG_RESET goes on from the rebuilt state, whose live context is the blank one. -/
theorem drbgResetRebuildsFirst : Obligations.DrbgResetRebuildsFirst := by
  rintro s _ hgood rfl
  obtain ⟨hempty, hdestroyed⟩ := inactiveInstanceRejects .drbgReset s (by simp)
  refine ⟨hempty, hdestroyed, fun ha hbad => ?_, fun ha hlow hhigh hshort => ?_,
    fun seed ha hlow hhigh htaken hlen => ?_⟩ <;>
  obtain ⟨hprof, -, hlive, -⟩ := (Drbg.good_iff_of_active ha).mp hgood
  · rw [exec_drbgReset_badLength ha hbad, State.rebuildLive_plain hlive.ib]
  · rw [exec_drbgReset_inRange ha hlow hhigh, State.dinRead_short (s := s.rebuildLive) hshort,
      State.rebuildLive_plain hlive.ib]
  · subst htaken
    have hrebuilt : s.rebuildLive.drbg.dlive.Live s.drbg.drate := hlive.resetCtx _ _
    rw [exec_drbgReset_inRange ha hlow hhigh, State.dinRead_taken (s := s.rebuildLive) hlen,
      State.absorbSeed_live hrebuilt hprof.rate_pos (hprof.seed_ne_nil (hlen ▸ hlow)),
      State.rebuildLive_plain hlive.ib]
    rfl

/-! ### DRBG_NEW -/

/-- The registers DRBG_NEW sets before it absorbs the seed (43_drbg.md R104). -/
def Drbg.fresh (d : Drbg) (r sl : Byte) : Drbg :=
  { dstate := .active, drate := r, dseedlen := sl, dcounter := 0, dnw := 0, dhasctx := true, dlive := newShake r,
    dfork := d.dfork }

/-- Past the strength check (43_drbg.md R104). -/
theorem exec_drbgNew_strength {r sl : Byte} (hs : s.drbg.dstate ≠ .active)
    (hprof : profileOfStrength s.a0 = some (r, sl)) :
    exec .drbgNew s = .next (
      if seedLenOk s.a1.toNat sl then
        s.dinRead s.a1.toNat fun seed s1 => State.absorbSeed { s1 with drbg := s1.drbg.fresh r sl } 0x20 seed
      else s.completed 0x20 .validation 0) := by
  refine congrArg _ ((if_neg hs).trans ?_)
  simp only [hprof]
  rfl

theorem exec_drbgNew_badStrength (hs : s.drbg.dstate ≠ .active) (hprof : profileOfStrength s.a0 = none) :
    exec .drbgNew s = .next (s.completed 0x20 .unsupportedStrength 0) := by
  refine congrArg _ ((if_neg hs).trans ?_)
  simp only [hprof]
  rfl

/-- Settles O49: the three checks, DinRead's two cases, and the seed absorbed into a fresh context at DNW = 0. -/
theorem drbgNewCreatesInstance : Obligations.DrbgNewCreatesInstance := by
  intro s
  refine ⟨fun ha => congrArg _ (if_pos ha), fun hs h1 h2 => exec_drbgNew_badStrength hs (profileOfStrength_none h1 h2),
    fun r sl hs hstrength => ?_⟩
  have hnew := exec_drbgNew_strength hs (profileOfStrength_some hstrength)
  refine ⟨fun hbad => ?_, fun hlow hhigh hshort => ?_, fun seed hlow hhigh htaken hlen => ?_⟩
  · rw [hnew, if_neg (not_seedLenOk hbad)]
  · rw [hnew, if_pos (seedLenOk_iff.mpr ⟨hlow, hhigh⟩), State.dinRead_short hshort]
  · subst htaken
    have hprof : (s.drbg.fresh r sl).profiled := hstrength.imp (fun h => h.2) fun h => h.2
    have hseed : s.dinTaken ≠ [] := hprof.seed_ne_nil (hlen ▸ hlow)
    rw [hnew, if_pos (seedLenOk_iff.mpr ⟨hlow, hhigh⟩), State.dinRead_taken hlen,
      State.absorbSeed_live (s := { s with drbg := s.drbg.fresh r sl }) (newShake_live r) hprof.rate_pos hseed,
      absorbPadded, if_neg hseed]
    rfl

end Commands

end Sys2Proof.Machine
end

section
/-! SUPPORT. The replay of Generate (43_drbg.md R107, R109): whole blocks absorbed by the fork and whole blocks squeezed from
the live context run the same permutations. -/

namespace Sys2Proof.Machine

variable (p : PermChoice) {c : Ctx}

/-! ### Lanes from their bytes -/

/-- A lane is its eight bytes. -/
theorem lane_ext {a b : Lane} (h : ∀ k < 8, a.extractLsb' (8 * k) 8 = b.extractLsb' (8 * k) 8) : a = b := by
  ext j hj
  have hbit := congrArg (·.getLsbD (j % 8)) (h (j / 8) (by omega))
  simpa [Nat.mod_lt, Nat.div_add_mod, hj] using hbit

/-- The lanes are the 200 state bytes (20_memory.md R39). -/
theorem Ctx.lanes_ext {c x : Ctx} (h : ∀ j < 200, c.stateByte j = x.stateByte j) : c.lanes = x.lanes := by
  ext i hi : 1
  refine lane_ext fun k hk => ?_
  have hdiv : (8 * i + k) / 8 = i := by omega
  have hmod : (8 * i + k) % 8 = k := by omega
  have hbyte := h (8 * i + k) (by omega)
  rw [c.stateByte_eq_extractLsb' _ (by omega), x.stateByte_eq_extractLsb' _ (by omega)] at hbyte
  simpa only [hdiv, hmod] using hbyte

/-! ### Whole blocks absorbed -/

/-- A whole block absorbed from cursor 0 permutes the lanes with its bytes XORed in (40_sponge.md R67). -/
theorem Ctx.absorb_block {x : Ctx} (h0 : c.cursor = 0) (hpos : 0 < c.rate.toNat) (hr : c.rate.toNat ≤ 200)
    {d : List Byte} (hd : d.length = c.rate.toNat) (hx : c.Xored x 0 d) :
    c.absorb p d = { c with lanes := permute p x.lanes } := by
  have hcur : c.cursor.toNat = 0 := congrArg BitVec.toNat h0
  obtain ⟨y, e, hy⟩ := Ctx.absorb_fills p (c := c) (d := d) (by omega) hr (by omega)
  have hlanes : y.lanes = x.lanes := Ctx.lanes_ext fun j hj => by rw [hy j hj, hx j hj, hcur]
  rw [e, hlanes, ← h0]

/-- Zeros change no byte. -/
theorem Ctx.xored_zeros (c : Ctx) (n : Nat) : c.Xored c 0 (zeros n) := by
  intro j _
  split
  · simp [zeros]
  · rfl

/-- Zero blocks absorbed from cursor 0 permute the lanes once each (43_drbg.md R109). -/
theorem Ctx.absorb_zeroBlocks (h0 : c.cursor = 0) (hpos : 0 < c.rate.toNat) (hr : c.rate.toNat ≤ 200) (k : Nat) :
    c.absorb p (List.replicate k (zeros c.rate.toNat)).flatten = { c with lanes := (permute p)^[k] c.lanes } := by
  induction k generalizing c with
  | zero => rfl
  | succ k ih =>
    rw [List.replicate_succ, List.flatten_cons, Ctx.absorb_append,
      Ctx.absorb_block p h0 hpos hr (zeros_length _) (c.xored_zeros _)]
    exact ih (c := { c with lanes := permute p c.lanes }) h0 hpos hr

/-! ### The replay pad -/

/-- The replay pad, written out (43_drbg.md R107). -/
theorem replayPad_eq {r : Nat} (hr : 2 ≤ r) (ds : Byte) : replayPad r ds = (ds :: zeros (r - 2)) ++ [0x80] := by
  obtain ⟨n, rfl⟩ := Nat.exists_eq_add_of_le' hr
  have hzeros : zeros (n + 2) = (0 :: zeros n) ++ [0] := by
    rw [zeros, List.replicate_succ, List.replicate_succ']
    rfl
  simp only [replayPad, hzeros]
  simp

theorem replayPad_getD {r j : Nat} (hr : 2 ≤ r) (hj : j < r) (ds : Byte) :
    (replayPad r ds).getD j 0 = if j = 0 then ds else if j = r - 1 then 0x80 else 0 := by
  rw [replayPad_eq hr]
  rcases Nat.lt_or_ge j (r - 1) with hlt | hge
  · rw [List.getD_append _ _ _ _ (by simp; omega), if_neg hlt.ne]
    cases j with
    | zero => rfl
    | succ j => simp [zeros]
  · obtain rfl : j = r - 1 := by omega
    rw [List.getD_append_right _ _ _ _ (by simp; omega), if_neg (by omega), if_pos rfl]
    simp [show r - 1 - (r - 2 + 1) = 0 by omega]

/-- The replay pad holds the two bytes that Finalize XORs in at cursor 0 (40_sponge.md R69, 43_drbg.md R109). -/
theorem Ctx.xored_replayPad (h2 : 2 ≤ c.rate.toNat) (hr : c.rate.toNat ≤ 200) :
    c.Xored ((c.xorByte 0 c.ds).xorByte (c.rate.toNat - 1) 0x80) 0 (replayPad c.rate.toNat c.ds) := by
  intro j hj
  rw [Ctx.stateByte_xorByte _ _ _ _ (by omega) hj, Ctx.stateByte_xorByte _ _ _ _ (by omega) hj, replayPad_length,
    Nat.zero_add, Nat.sub_zero]
  rcases Nat.lt_or_ge j c.rate.toNat with hlt | hge
  · have hin : 0 ≤ j ∧ j < c.rate.toNat := ⟨Nat.zero_le j, hlt⟩
    rw [replayPad_getD h2 hlt, if_pos hin]
    rcases eq_or_ne j 0 with rfl | hfirst
    · have hlast : 0 ≠ c.rate.toNat - 1 := by omega
      rw [if_neg hlast, if_pos rfl, if_pos rfl]
    · rw [if_neg hfirst, if_neg hfirst]
      split
      · rfl
      · exact BitVec.xor_zero.symm
  · rw [if_neg (by omega), if_neg (by omega), if_neg (by omega)]

/-! ### Whole blocks squeezed -/

/-- Squeezing a whole block from cursor 0 leaves the cursor at RATE (40_sponge.md R71). -/
theorem Ctx.squeezeBytes_block (h0 : c.cursor = 0) :
    (Ctx.squeezeBytes p c.rate.toNat c).2 = { c with cursor := c.rate } := by
  rw [Ctx.squeezeBytes_within p _ (by simp [h0]), h0]
  simp

/-- Past `k` whole blocks from cursor 0 the lanes are permuted `k` times, and the cursor counts the rest (40_sponge.md R71). -/
theorem Ctx.squeezeBytes_blocks (h0 : c.cursor = 0) {m : Nat} (hm : 0 < m) (hle : m ≤ c.rate.toNat) (k : Nat) :
    (Ctx.squeezeBytes p (k * c.rate.toNat + m) c).2 =
      { c with lanes := (permute p)^[k] c.lanes, cursor := BitVec.ofNat 8 m } := by
  induction k generalizing c with
  | zero =>
    rw [Nat.zero_mul, Nat.zero_add, Ctx.squeezeBytes_within p m (by simpa [h0] using hle), h0]
    simp
  | succ k ih =>
    have hrate : c.rate ≠ 0 := fun e => by simp [e] at hle; omega
    calc (Ctx.squeezeBytes p ((k + 1) * c.rate.toNat + m) c).2
        = (Ctx.squeezeBytes p (k * c.rate.toNat + m) (Ctx.squeezeBytes p c.rate.toNat c).2).2 := by
          rw [Nat.succ_mul, Nat.add_comm (k * _), Nat.add_assoc, Ctx.squeezeBytes_add]
      _ = (Ctx.squeezeBytes p (k * c.rate.toNat + m) { c with lanes := permute p c.lanes, cursor := 0 }).2 := by
          rw [Ctx.squeezeBytes_block p h0, Ctx.squeezeBytes_of_full p (c := { c with cursor := c.rate }) rfl hrate (by omega)]
      _ = _ := ih (c := { c with lanes := permute p c.lanes, cursor := 0 }) rfl hle

/-! ### The fork and the squeezed context -/

/-- The lanes with the two bytes of Finalize at cursor 0 XORed in (40_sponge.md R69). -/
def Ctx.paddedLanes (c : Ctx) : Lanes := ((c.xorByte 0 c.ds).xorByte (c.rate.toNat - 1) 0x80).lanes

section Replay

variable (hdir : c.dir = .absorbing) (h0 : c.cursor = 0) (h2 : 2 ≤ c.rate.toNat) (k : Nat)
include hdir h0 h2

/-- The fork has run one PERM for the pad and one for each zero block (43_drbg.md R109). -/
theorem replayFork_eq (hr : c.rate.toNat ≤ 200) :
    replayFork p c.rate.toNat k c.ds c = some { c with lanes := (permute p)^[k + 1] c.paddedLanes } := by
  have hpos : 0 < c.rate.toNat := by omega
  rw [replayFork_absorbing hdir, Ctx.absorb_append,
    Ctx.absorb_block p h0 hpos hr (replayPad_length _ _) (Ctx.xored_replayPad h2 hr)]
  exact congrArg some (Ctx.absorb_zeroBlocks p
    (c := { c with lanes := permute p ((c.xorByte 0 c.ds).xorByte (c.rate.toNat - 1) 0x80).lanes }) h0 hpos hr k)

/-- The squeezed context has run one PERM in Finalize and one for each whole block (43_drbg.md R109). -/
theorem Ctx.squeeze_replayed :
    (c.squeeze p ((k + 1) * c.rate.toNat - 1)).2 =
      { c with lanes := (permute p)^[k + 1] c.paddedLanes, cursor := BitVec.ofNat 8 (c.rate.toNat - 1),
               dir := .squeezing } := by
  have hlen : (k + 1) * c.rate.toNat - 1 = k * c.rate.toNat + (c.rate.toNat - 1) := by
    rw [Nat.succ_mul]; omega
  have hlanes : (c.finalize p).lanes = permute p c.paddedLanes := by
    simp only [Ctx.finalize, h0]
    rfl
  rw [hlen, Ctx.squeeze_absorbing p hdir]
  refine (Ctx.squeezeBytes_blocks p (c := c.finalize p) (m := c.rate.toNat - 1) rfl (by omega)
    (Nat.sub_le _ 1) k).trans ?_
  rw [hlanes]
  rfl

end Replay

/-- Settles O36: both contexts hold the same power of PERM of the padded lanes. -/
theorem replayEquivalence : Obligations.ReplayEquivalence := by
  intro p c k hdir h0 h2 hr
  have hsqueezed := Ctx.squeeze_replayed p hdir h0 h2 k
  refine ⟨_, replayFork_eq p hdir h0 h2 k hr, (congrArg Ctx.lanes hsqueezed).symm, rfl, hdir, h0, ?_⟩
  rw [hsqueezed]
  exact Nat.mod_eq_of_lt (by omega)

end Sys2Proof.Machine
end

section
/-! SUPPORT. DRBG_GENERATE where it completes (43_drbg.md R107, R108, R110): its sizes, its fork, its output. -/

namespace Sys2Proof.Machine

/-! ### Sizes -/

theorem le_ceilDiv_mul {a b : Nat} (hb : 0 < b) : a ≤ ceilDiv a b * b := by
  have hdiv := Nat.div_add_mod (a + b - 1) b
  have hmod := Nat.mod_lt (a + b - 1) hb
  rw [Nat.mul_comm] at hdiv
  simp only [ceilDiv]
  omega

/-- The scratch buffer holds the output (43_drbg.md R108). -/
theorem le_scratchLen {outLen r : Nat} (hr : 0 < r) : outLen ≤ scratchLen outLen r := by
  have hle := le_ceilDiv_mul (a := outLen) hr
  rw [scratchLen, generateBlocks, Nat.succ_mul]
  omega

/-- The scratch buffer holds a window (43_drbg.md R108, 44_drbg_helpers.md R122). -/
theorem lt_scratchLen {outLen r : Nat} (hr : 25 < r) : 24 < scratchLen outLen r := by
  rw [scratchLen, Nat.succ_mul]
  omega

theorem Drbg.profiled.rate_bounds {d : Drbg} (h : d.profiled) : 136 ≤ d.drate.toNat ∧ d.drate.toNat ≤ 168 := by
  rcases h with ⟨hr, -⟩ | ⟨hr, -⟩ <;> simp [hr]

/-- The window is not empty (44_drbg_helpers.md R122). -/
theorem window_ne_nil {scratch : List Byte} (nw : Reg) (h : 24 < scratch.length) :
    remix ((scratch.drop (windowStart scratch nw)).take Config.remixWindow) ≠ [] := by
  have hstart : windowStart scratch nw < scratch.length - 24 := Nat.mod_lt _ (by omega)
  refine List.ne_nil_of_length_pos ?_
  rw [remix_length, List.length_take, List.length_drop]
  exact lt_min (by decide) (by omega)

theorem Ctx.length_of_squeeze {p : PermChoice} {c x : Ctx} {n : Nat} {b : List Byte} (h : c.squeeze p n = (b, x)) :
    b.length = n := by
  rw [← c.squeeze_length p n, h]

/-! ### The fork -/

section Fork

variable (p : PermChoice) {c : Ctx} {r : Byte}

/-- The bytes the fork absorbs to replay Generate's squeeze (43_drbg.md R107). -/
def replayBytes (r k : Nat) (ds : Byte) : List Byte := replayPad r ds ++ (List.replicate k (zeros r)).flatten

/-- Steps 6 and 7 of Generate on a live fork, as two plain absorbs (43_drbg.md R107). -/
theorem Ctx.Live.evolveFork_eq (h : c.Live r) (hr : 0 < r.toNat) (k : Nat) (ds : Byte) (nw : Reg)
    {scratch : List Byte} (hlen : 24 < scratch.length) :
    evolveFork p r.toNat k ds nw scratch c =
      some (absorbPadded p (c.absorb p (replayBytes r.toNat k ds)) nw
        (remix ((scratch.drop (windowStart scratch nw)).take Config.remixWindow)), nw + 1) := by
  have hfork : (c.absorb p (replayBytes r.toNat k ds)).Live r := h.absorb p hr (by simp [replayBytes])
  simp only [evolveFork, replayFork_absorbing h.dir]
  refine (hfork.prePaddedAbsorb_eq p hr nw _).trans ?_
  rw [if_neg (window_ne_nil nw hlen)]

end Fork

/-! ### Output and evolution -/

section Generate

variable {s : State} {op : Byte} {add scratch : List Byte} {live squeezed : Ctx} {nw : Reg}

/-- Steps 3 to 8 of Generate on a live context (43_drbg.md R107). -/
theorem State.runGenerate_live (hlive : s.drbg.dlive.Live s.drbg.drate) (hprof : s.drbg.profiled) (h0 : s.a0 ≠ 0)
    (el : live = absorbPadded s.params.perm s.drbg.dlive s.drbg.dnw add)
    (en : nw = s.drbg.dnw + if add = [] then 0 else 1)
    (es : live.squeeze s.params.perm (scratchLen s.a0.toNat s.drbg.drate.toNat) = (scratch, squeezed)) :
    (scratch.take s.a0.toNat).length = s.a0.toNat ∧
    s.runGenerate op add = State.offering
      { s with
        drbg := { s.drbg with
          dlive := absorbPadded s.params.perm
            (live.absorb s.params.perm
              (replayBytes s.drbg.drate.toNat (generateBlocks s.a0.toNat s.drbg.drate.toNat) 0x1F))
            nw (remix ((scratch.drop (windowStart scratch nw)).take Config.remixWindow)),
          dfork := Ctx.free, dnw := nw + 1, dcounter := s.drbg.dcounter + 1 } }
      op (scratch.take s.a0.toNat) := by
  obtain ⟨hlow, -⟩ := hprof.rate_bounds
  have hscratch := Ctx.length_of_squeeze es
  have hlen : (scratch.take s.a0.toNat).length = s.a0.toNat :=
    List.length_take_of_le (hscratch ▸ le_scratchLen hprof.rate_pos)
  have hout : scratch.take s.a0.toNat ≠ [] := fun e => by
    rw [e] at hlen
    exact h0 (BitVec.eq_of_toNat_eq hlen.symm)
  have hlive' : live.Live s.drbg.drate := el ▸ hlive.absorbPadded_keeps s.params.perm hprof.rate_pos _ _
  have hds : squeezed.ds = 0x1F := by
    obtain ⟨-, -, hkeep, -, -⟩ := live.squeeze_keeps s.params.perm (scratchLen s.a0.toNat s.drbg.drate.toNat)
    rw [es] at hkeep
    exact hkeep.trans hlive'.ds
  refine ⟨hlen, ?_⟩
  simp only [State.runGenerate, hlive.prePaddedAbsorb_eq s.params.perm hprof.rate_pos, ← el, ← en, es, Ctx.clone_eq, hds,
    hlive'.evolveFork_eq s.params.perm hprof.rate_pos _ _ _ (hscratch ▸ lt_scratchLen (by omega)), Ctx.zeroize_eq]
  exact State.emit_offers hout

/-- Settles O54: Generate past its checks on a live context, its fork's bytes, window start and DNW written out. -/
theorem drbgGenerateEmitsAndEvolves : Obligations.DrbgGenerateEmitsAndEvolves := by
  intro s add scratch live squeezed fork r k w nw hgood ha hcount h0 hmax hadd htaken hlen hr hk el en es hw hfork
  obtain ⟨hprof, -, hlive, hfree⟩ := (Drbg.good_iff_of_active ha).mp hgood
  obtain ⟨hlow, -⟩ := hprof.rate_bounds
  subst hr hk htaken
  obtain ⟨hout, hrun⟩ := State.runGenerate_live (op := 0x21) hlive hprof h0 el en es
  have hstart : windowStart scratch nw = w := by
    rw [hw, windowStart, Ctx.length_of_squeeze es]
  have hbytes : live.absorb s.params.perm
      (replayBytes s.drbg.drate.toNat (generateBlocks s.a0.toNat s.drbg.drate.toNat) 0x1F) = fork := by
    rw [hfork, replayBytes, replayPad_eq (by omega)]
    rfl
  have hdnw : nw + 1 = s.drbg.dnw + if s.dinTaken = [] then 1 else 2 := by
    rw [en, BitVec.add_assoc]
    split <;> rfl
  refine ⟨_, rfl, hout, ?_⟩
  rw [exec_drbgGenerate_inRange ha hcount h0 hmax hadd, State.dinRead_taken hlen, hrun, hstart, hbytes, hdnw, ← hfree]

end Generate

end Sys2Proof.Machine
end

section
/-! SUPPORT. DeriveOffset (44_drbg_helpers.md R117, R118): the machine's byte rotations as Lean's own, and the order of the
bytes. -/

namespace Sys2Proof.Machine

/-! ### Byte rotations -/

/-- ROL8 is Lean's left rotation (00_scope.md R14). -/
theorem rol8_eq_rotateLeft (b : Byte) (r : Nat) : rol8 b r = b.rotateLeft r := BitVec.rotateLeft_def.symm

/-- ROR8 is Lean's right rotation: where the amount is not 0 mod 8 the two halves of ROL8 by 8 - r change places
(00_scope.md R14). -/
theorem ror8_eq_rotateRight (b : Byte) (r : Nat) : ror8 b r = b.rotateRight r := by
  rw [ror8, rol8_eq_rotateLeft, BitVec.rotateLeft_def, BitVec.rotateRight_def]
  rcases Nat.eq_zero_or_pos (r % 8) with h | h
  · simp [h, BitVec.ushiftRight_eq_zero]
  · have hlt : 8 - r % 8 < 8 := Nat.sub_lt (by decide) h
    rw [Nat.mod_eq_of_lt hlt, Nat.sub_sub_self (Nat.mod_lt r (by decide)).le, BitVec.or_comm]

/-! ### DeriveOffset -/

/-- DeriveOffset as R117 writes it, with XOR8 named (44_drbg_helpers.md R117). -/
theorem deriveOffset_eq (b : List Byte) (nw : Reg) :
    deriveOffset b nw =
      if nw &&& 0xA55A ≠ 0 then
        (xor8 b + BitVec.ofNat 8 ((nw.toNat + 1) % 256)).rotateRight (nw.toNat % 8)
      else (xor8 b + BitVec.ofNat 8 ((nw.toNat + 1) % 256)).rotateLeft (nw.toNat % 8) := by
  have hinc : BitVec.ofNat 8 ((nw.toNat + 1) % 256) = BitVec.ofNat 8 (nw.toNat + 1) :=
    BitVec.eq_of_toNat_eq (Nat.mod_mod _ _)
  simp only [deriveOffset, ror8_eq_rotateRight, rol8_eq_rotateLeft, hinc]

/-- DeriveOffset reads its bytes through XOR8 alone (44_drbg_helpers.md R118). -/
theorem deriveOffset_congr {a b : List Byte} (nw : Reg) (h : xor8 a = xor8 b) :
    deriveOffset a nw = deriveOffset b nw := by
  simp only [deriveOffset, h]

/-- XOR8 does not see the order of the bytes. -/
theorem xor8_perm {a b : List Byte} (h : a.Perm b) : xor8 a = xor8 b :=
  h.foldl_eq (rcomm := ⟨fun x y z => by rw [BitVec.xor_assoc, BitVec.xor_comm y, ← BitVec.xor_assoc]⟩) 0

/-- Of 0 to 7 the counter values that turn the rotation around (44_drbg_helpers.md R118). -/
theorem offsetMask_ne_zero_iff {nw : Reg} (h : nw.toNat ≤ 7) :
    nw &&& 0xA55A ≠ 0 ↔ nw = 2 ∨ nw = 3 ∨ nw = 6 ∨ nw = 7 := by
  have hall : ∀ n : Fin 8, let x := BitVec.ofNat 64 n
      x &&& 0xA55A ≠ 0 ↔ x = 2 ∨ x = 3 ∨ x = 6 ∨ x = 7 := by decide
  have hnw := hall ⟨nw.toNat, Nat.lt_succ_of_le h⟩
  simpa only [BitVec.ofNat_toNat, BitVec.setWidth_eq] using hnw

/-- Settles O32: `deriveOffset_eq`, and XOR8 as all that it reads of the bytes; the nine examples of R118
are evaluated. -/
theorem offsetIgnoresOrder : Obligations.OffsetIgnoresOrder :=
  ⟨deriveOffset_eq, fun _ _ nw h => deriveOffset_congr nw h, fun _ _ nw h => deriveOffset_congr nw (xor8_perm h),
    fun _ h => offsetMask_ne_zero_iff h, by decide⟩

end Sys2Proof.Machine
end

section
/-! SUPPORT. The pre-padded absorb from any cursor (44_drbg_helpers.md R120, R121) and the window in the scratch buffer
(R122). -/

namespace Sys2Proof.Machine

/-! ### PrePaddedAbsorb from any cursor -/

/-- Zeros up to the next multiple of r make the rounded-up multiple (44_drbg_helpers.md R121). -/
theorem add_toMultiple (n : Nat) {r : Nat} (hr : 0 < r) : n + (r - n % r) % r = (n + r - 1) / r * r := by
  have hn := Nat.div_add_mod' n r
  have hlt := Nat.mod_lt n hr
  rcases Nat.eq_zero_or_pos (n % r) with h0 | hpos
  · have hdiv : (n + r - 1) / r = n / r := Nat.div_eq_of_lt_le (by omega) (by rw [Nat.succ_mul]; omega)
    rw [hdiv, h0, Nat.sub_zero, Nat.mod_self]; omega
  · have hdiv : (n + r - 1) / r = n / r + 1 :=
      Nat.div_eq_of_lt_le (by rw [Nat.succ_mul]; omega) (by rw [Nat.succ_mul, Nat.succ_mul]; omega)
    rw [hdiv, Nat.mod_eq_of_lt (Nat.sub_lt hr hpos), Nat.succ_mul]; omega

/-- A non-empty pre-padded absorb from any cursor is one plain absorb, up to the next boundary (44_drbg_helpers.md R120). -/
theorem prePaddedAbsorb_eq_absorb (p : PermChoice) {c : Ctx} (hdir : c.dir = .absorbing)
    (h : c.cursor.toNat < c.rate.toNat) (nw : Reg) {d : List Byte} (hd : d ≠ []) :
    prePaddedAbsorb p c nw d =
      some (c.absorb p (zeros (deriveOffset d nw).toNat ++ d ++
        zeros ((c.rate.toNat - (c.cursor.toNat + (deriveOffset d nw).toNat + d.length) % c.rate.toNat) % c.rate.toNat)),
        nw + 1) := by
  have hboundary := Ctx.absorb_toBoundary p (c := c.absorb p (zeros (deriveOffset d nw).toNat ++ d))
    (by rw [Ctx.absorb_rate]; exact Ctx.absorb_cursor_lt p h _)
  rw [Ctx.absorb_rate, Ctx.absorb_cursor p h, List.length_append, zeros_length, ← Nat.add_assoc] at hboundary
  rw [prePaddedAbsorb_absorbing hdir nw hd, Ctx.absorb_cursor p h, List.length_append, zeros_length, ← Nat.add_assoc,
    hboundary, ← Ctx.absorb_append]

/-- Settles O33: the absorb of `prePaddedAbsorb_eq_absorb` ends at a multiple of RATE. -/
theorem prePaddedAbsorbArithmetic : Obligations.PrePaddedAbsorbArithmetic := by
  intro p c nw d hdir h
  refine ⟨rfl, fun hd => ?_⟩
  have hz := add_toMultiple (c.cursor.toNat + (deriveOffset d nw).toNat + d.length) (Nat.zero_lt_of_lt h)
  refine ⟨_, prePaddedAbsorb_eq_absorb p hdir h nw hd, hz, BitVec.eq_of_toNat_eq ?_, by rw [Ctx.absorb_dir, hdir]⟩
  rw [Ctx.absorb_cursor p h, List.length_append, List.length_append, zeros_length, zeros_length, ← Nat.add_assoc,
    ← Nat.add_assoc, hz]
  exact Nat.mul_mod_left _ _

/-! ### The window of Generate -/

/-- Generate squeezes at least one block (43_drbg.md R108). -/
theorem generateBlocks_pos {outLen r : Nat} (hr : 0 < r) (h : 1 ≤ outLen) : 1 ≤ generateBlocks outLen r :=
  (Nat.le_div_iff_mul_le hr).mpr (by omega)

/-- The scratch buffer is one byte short of k + 1 blocks (43_drbg.md R108). -/
theorem scratchLen_succ {outLen r : Nat} (hr : 0 < r) :
    scratchLen outLen r + 1 = r * generateBlocks outLen r + r := by
  rw [scratchLen, Nat.succ_mul, Nat.mul_comm r]; omega

/-- Settles O34: the sizes of Generate, and the remainder by S - 24. Past its least size, 271, the buffer has at least 335 bytes,
so that the remainder is the offset itself. -/
theorem windowInsideScratch : Obligations.WindowInsideScratch := by
  intro outLen r scratch nw hr hout hlen
  have hpos : 0 < r := by omega
  have hsize := hlen ▸ scratchLen_succ (outLen := outLen) hpos
  have hblocks := generateBlocks_pos hpos hout
  have hout' : outLen ≤ scratch.length := hlen ▸ le_scratchLen hpos
  have hoffset : (deriveOffset scratch nw).toNat < 256 := (deriveOffset scratch nw).isLt
  have hmin : 271 ≤ scratch.length := by
    have := Nat.mul_le_mul_left r hblocks
    omega
  have hlt : windowStart scratch nw < scratch.length - 24 := Nat.mod_lt _ (by omega)
  have hle : windowStart scratch nw ≤ (deriveOffset scratch nw).toNat := Nat.mod_le _ _
  refine ⟨by omega, by rw [Nat.mul_add]; omega, hmin, hout', by omega, by omega, fun h => Nat.mod_eq_of_lt ?_⟩
  rcases hr with rfl | rfl <;> omega

end Sys2Proof.Machine
end

section
/-! SUPPORT. Remix (44_drbg_helpers.md R123, R124): its terms, the order of its pairs, its steps as involutions, and the
perturbation of a constant window. -/

namespace Sys2Proof.Machine

/-! ### The terms -/

section Terms

variable {t : Nat}

theorem remixTerm_complement (h : t &&& 0x07 = 0) (b : Byte) : remixTerm t b = ~~~b := by
  simp only [remixTerm, if_pos h]

theorem remixTerm_right (h : t &&& 0x07 ≠ 0) (hmask : t &&& 0x0A ≠ 0) (b : Byte) :
    remixTerm t b = b.rotateRight (t &&& 0x07) := by
  simp only [remixTerm, if_neg h, if_pos hmask, ror8_eq_rotateRight]

theorem remixTerm_left (h : t &&& 0x07 ≠ 0) (hmask : t &&& 0x0A = 0) (b : Byte) :
    remixTerm t b = b.rotateLeft (t &&& 0x07) := by
  simp only [remixTerm, if_neg h, if_neg (not_not.mpr hmask), rol8_eq_rotateLeft]

/-- Both mask tests look at t mod 16 only. -/
theorem and_eq_mod_sixteen_and {m : Nat} (hm : m < 16) : t &&& m = (t % 16) &&& m := by
  have h : (t &&& m) % 16 = t % 16 &&& m % 16 := Nat.and_mod_two_pow (n := 4)
  rwa [Nat.mod_eq_of_lt (Nat.and_le_right.trans_lt hm), Nat.mod_eq_of_lt hm] at h

/-- Where the rotation is a left one (44_drbg_helpers.md R124). -/
theorem mod_sixteen_of_left (h : t &&& 0x07 ≠ 0) (hmask : t &&& 0x0A = 0) : t % 16 = 1 ∨ t % 16 = 4 ∨ t % 16 = 5 := by
  have hall : ∀ r < 16, r &&& 0x07 ≠ 0 → r &&& 0x0A = 0 → r = 1 ∨ r = 4 ∨ r = 5 := by decide
  rw [and_eq_mod_sixteen_and (by decide)] at h hmask
  exact hall _ (Nat.mod_lt t (by decide)) h hmask

/-- A rotation of the zero byte is no complement, so the complement term shows at t AND 7 = 0 only. -/
theorem remixTerm_complement_iff : (∀ b, remixTerm t b = ~~~b) ↔ t &&& 0x07 = 0 := by
  refine ⟨fun hall => by_contra fun h => ?_, remixTerm_complement⟩
  have hzero : remixTerm t 0 = 0 := by
    simp only [remixTerm, if_neg h, ror8, rol8, BitVec.ofNat_eq_ofNat, BitVec.zero_shiftLeft, BitVec.zero_ushiftRight]
    split <;> rfl
  exact absurd ((hall 0).symm.trans hzero) (by decide)

theorem remixTerm_right_iff :
    (t &&& 0x07 ≠ 0 ∧ t &&& 0x0A ≠ 0 ∧ ∀ b, remixTerm t b = b.rotateRight (t &&& 0x07)) ↔
      t &&& 0x07 ≠ 0 ∧ t &&& 0x0A ≠ 0 :=
  ⟨fun ⟨h, hmask, _⟩ => ⟨h, hmask⟩, fun ⟨h, hmask⟩ => ⟨h, hmask, remixTerm_right h hmask⟩⟩

theorem remixTerm_left_iff :
    (t &&& 0x07 ≠ 0 ∧ t &&& 0x0A = 0 ∧ ∀ b, remixTerm t b = b.rotateLeft (t &&& 0x07)) ↔
      t &&& 0x07 ≠ 0 ∧ t &&& 0x0A = 0 :=
  ⟨fun ⟨h, hmask, _⟩ => ⟨h, hmask⟩, fun ⟨h, hmask⟩ => ⟨h, hmask, remixTerm_left h hmask⟩⟩

end Terms

/-! ### The pairs -/

theorem mem_remixPairs {i j : Nat} : (i, j) ∈ remixPairs ↔ i < 25 ∧ j < 25 ∧ j ≠ i := by
  simp [remixPairs, Config.remixWindow]

theorem remixPairs_length : remixPairs.length = 600 := by decide +kernel

/-- The outer loop runs over i, the inner one over j, both upwards (44_drbg_helpers.md R123). -/
theorem remixPairs_pairwise : remixPairs.Pairwise fun x y => x.1 < y.1 ∨ (x.1 = y.1 ∧ x.2 < y.2) := by
  refine List.pairwise_flatMap.mpr ⟨fun i _ => ?_, List.pairwise_lt_range.imp fun hlt x hx y hy => .inl ?_⟩
  · exact List.pairwise_map.mpr ((List.pairwise_lt_range.filter _).imp fun hlt => .inr ⟨rfl, hlt⟩)
  · obtain ⟨_, _, rfl⟩ := List.mem_map.mp hx
    obtain ⟨_, _, rfl⟩ := List.mem_map.mp hy
    exact hlt

/-! ### The steps -/

section Steps

variable {i j t : Nat}

@[simp] theorem remixStep_length (b : List Byte) (x : (Nat × Nat) × Nat) : (remixStep b x).length = b.length :=
  List.length_set

/-- A step changes byte i and no other (44_drbg_helpers.md R123). -/
theorem remixStep_getD {b : List Byte} (hi : i < b.length) (k : Nat) :
    (remixStep b ((i, j), t)).getD k 0 =
      if k = i then b.getD i 0 ^^^ remixTerm t (b.getD j 0) else b.getD k 0 := by
  simp only [remixStep, List.getD_eq_getElem?_getD, List.getElem?_set, if_pos hi, eq_comm (a := k)]
  split <;> rfl

/-- A step reads byte j, which it leaves as it is, so the same step takes it back (44_drbg_helpers.md R124). -/
theorem remixStep_involutive (h : j ≠ i) : Function.Involutive (remixStep · ((i, j), t)) := by
  intro b
  rcases Nat.lt_or_ge i b.length with hi | hi
  · have hj : (remixStep b ((i, j), t)).getD j 0 = b.getD j 0 := by rw [remixStep_getD hi, if_neg h]
    have hcur : (remixStep b ((i, j), t)).getD i 0 = b.getD i 0 ^^^ remixTerm t (b.getD j 0) := by
      rw [remixStep_getD hi, if_pos rfl]
    change (remixStep b ((i, j), t)).set i _ = b
    rw [hj, hcur, BitVec.xor_assoc, BitVec.xor_self, BitVec.xor_zero, remixStep, List.set_set, List.getD_eq_getElem _ _ hi,
      List.set_getElem_self]
  · simp only [remixStep, List.set_eq_of_length_le hi]

end Steps

/-! ### The core -/

/-- Involutions are undone one by one, the last first. -/
theorem foldr_foldl_of_involutive {α β : Type} {f : β → α → β} {l : List α}
    (h : ∀ x ∈ l, Function.Involutive (f · x)) (b : β) : l.foldr (fun x y => f y x) (l.foldl f b) = b := by
  induction l generalizing b with
  | nil => rfl
  | cons x l ih =>
    rw [List.foldl_cons, List.foldr_cons, ih (fun y hy => h y (.tail _ hy))]
    exact h x (.head _) b

theorem foldl_foldr_of_involutive {α β : Type} {f : β → α → β} {l : List α}
    (h : ∀ x ∈ l, Function.Involutive (f · x)) (b : β) : l.foldl f (l.foldr (fun x y => f y x) b) = b := by
  have hrev := foldr_foldl_of_involutive (l := l.reverse) (fun x hx => h x (List.mem_reverse.mp hx)) b
  rwa [List.foldl_reverse, List.foldr_reverse] at hrev

/-- The steps of the core, each with its counter, undone from the last to the first (44_drbg_helpers.md R124). -/
def remixUndo (b : List Byte) : List Byte := remixPairs.zipIdx.foldr (fun x y => remixStep y x) b

theorem remixStep_involutive_of_mem {x : (Nat × Nat) × Nat} (hx : x ∈ remixPairs.zipIdx) :
    Function.Involutive (remixStep · x) :=
  remixStep_involutive (mem_remixPairs.mp (List.fst_mem_of_mem_zipIdx hx)).2.2

theorem remixUndo_remixCore (b : List Byte) : remixUndo (remixCore b) = b :=
  foldr_foldl_of_involutive (fun _ => remixStep_involutive_of_mem) b

theorem remixCore_remixUndo (b : List Byte) : remixCore (remixUndo b) = b :=
  foldl_foldr_of_involutive (fun _ => remixStep_involutive_of_mem) b

theorem remixUndo_length (b : List Byte) : (remixUndo b).length = b.length :=
  List.foldrRecOn (motive := fun x : List Byte => x.length = b.length) _ _ rfl fun _ h x _ =>
    (remixStep_length _ x).trans h

/-- The counter t runs with the pairs (44_drbg_helpers.md R123). -/
theorem remixCore_eq_foldl_range (b : List Byte) :
    remixCore b = (List.range 600).foldl (fun x t => remixStep x (remixPairs.getD t (0, 0), t)) b := by
  have hpairs : remixPairs.zipIdx = (List.range 600).map fun t => (remixPairs.getD t (0, 0), t) := by
    refine List.ext_getElem (by simp [remixPairs_length]) fun n hn _ => ?_
    rw [List.length_zipIdx] at hn
    simp [hn]
  rw [remixCore, hpairs, List.foldl_map]

/-! ### The perturbation -/

theorem allEqual_iff {w : List Byte} (h : w.length = 25) : allEqual w = true ↔ ∃ v, w = List.replicate 25 v := by
  refine ⟨fun hall => ⟨w.headD 0, List.eq_replicate_iff.mpr ⟨h, by simpa [allEqual] using hall⟩⟩, ?_⟩
  rintro ⟨v, rfl⟩
  simp [allEqual, List.replicate_succ]

theorem remix_of_constant {w : List Byte} (h : allEqual w = true) : remix w = remixCore (perturb w) := by
  simp only [remix, if_pos h]

theorem remix_of_not_constant {w : List Byte} (h : ¬allEqual w = true) : remix w = remixCore w := by
  simp only [remix, if_neg h]

theorem perturb_constant (n : Nat) (v : Byte) :
    perturb (List.replicate n v) = (List.range n).map fun i => v ^^^ BitVec.ofNat 8 (i + 1) := by
  refine List.ext_getElem (by simp [perturb]) fun k _ _ => ?_
  simp [perturb]

/-- The first two bytes of a perturbed constant window differ (44_drbg_helpers.md R124). -/
theorem allEqual_perturb_constant (v : Byte) : allEqual (perturb (List.replicate 25 v)) = false := by
  refine Bool.eq_false_iff.mpr fun h => ?_
  obtain ⟨c, hc⟩ := (allEqual_iff (by simp [perturb])).mp h
  rw [perturb_constant] at hc
  have h0 : v ^^^ 1 = c := congrArg (·.getD 0 0) hc
  have h1 : v ^^^ 2 = c := congrArg (·.getD 1 0) hc
  exact absurd ((BitVec.xor_right_inj v).mp (h0.trans h1.symm)) (by decide)

/-- The window that the perturbation of zeros gives is not constant, so Remix does not perturb it again
(44_drbg_helpers.md R124). -/
theorem remix_zeros_eq : remix (List.replicate 25 0) = remix ((List.range 25).map fun i => BitVec.ofNat 8 (i + 1)) := by
  have hperturb : perturb (List.replicate 25 0) = (List.range 25).map fun i => BitVec.ofNat 8 (i + 1) := by
    simp only [perturb_constant, BitVec.ofNat_eq_ofNat, BitVec.zero_xor]
  rw [remix_of_constant ((allEqual_iff rfl).mpr ⟨0, rfl⟩), ← hperturb,
    remix_of_not_constant (Bool.eq_false_iff.mp (allEqual_perturb_constant 0))]

/-- The value of 44_drbg_helpers.md R124. -/
theorem remix_zeros_value : remix (List.replicate 25 0) =
    [0x7c, 0xa1, 0x45, 0xa6, 0x67, 0xc6, 0x4b, 0xcb, 0xcd, 0x8b, 0x48, 0x9d, 0x4d, 0xb9, 0xce, 0x0a, 0x9d, 0xb1, 0x55,
      0xb6, 0x77, 0xd6, 0x5b, 0xdb, 0xdd] := by decide +kernel

/-! ### The counts -/

theorem remix_complements_count : ((List.range 600).filter fun t => ∀ b, remixTerm t b = ~~~b).length = 75 := by
  simp only [remixTerm_complement_iff]
  decide +kernel

theorem remix_rights_count :
    ((List.range 600).filter fun t => t &&& 0x07 ≠ 0 ∧ t &&& 0x0A ≠ 0 ∧
      ∀ b, remixTerm t b = b.rotateRight (t &&& 0x07)).length = 411 := by
  simp only [remixTerm_right_iff]
  decide +kernel

theorem remix_lefts_count :
    ((List.range 600).filter fun t => t &&& 0x07 ≠ 0 ∧ t &&& 0x0A = 0 ∧
      ∀ b, remixTerm t b = b.rotateLeft (t &&& 0x07)).length = 114 := by
  simp only [remixTerm_left_iff]
  decide +kernel

/-- Settles O35: the terms, the pairs and the counts; every step is an involution, so the core is undone by `remixUndo`; the
perturbed zeros collide with themselves. -/
theorem remixCoreIsInjective : Obligations.RemixCoreIsInjective :=
  ⟨fun _ hw => ⟨fun h => remix_of_constant ((allEqual_iff hw).mpr h),
      fun h => remix_of_not_constant (mt (allEqual_iff hw).mp h)⟩,
    fun _ b => ⟨fun h => remixTerm_complement h b, fun h hmask => remixTerm_right h hmask b,
      fun h hmask => ⟨remixTerm_left h hmask b, mod_sixteen_of_left h hmask⟩⟩,
    fun _ _ _ k b hb hi _ _ => ⟨(remixStep_length b _).trans hb, remixStep_getD (hi.trans_eq hb.symm) k⟩,
    remixCore_eq_foldl_range, remixPairs_length, fun _ _ => mem_remixPairs, remixPairs_pairwise,
    remix_complements_count, remix_rights_count, remix_lefts_count,
    fun _ _ _ _ _ _ _ hne _ _ heq => (remixStep_involutive hne).injective heq,
    fun _ _ _ _ heq => Function.LeftInverse.injective remixUndo_remixCore heq,
    fun b hb => ⟨remixUndo b, (remixUndo_length b).trans hb, remixCore_remixUndo b⟩,
    fun v => ⟨perturb_constant 25 v, allEqual_perturb_constant v⟩, remix_zeros_eq, remix_zeros_value⟩

end Sys2Proof.Machine
end

section
/-! SUPPORT. The diagnostic commands (44_drbg_helpers.md R125, R126): their checks, and DinRead's two cases. -/

namespace Sys2Proof.Machine

/-- DIAG_OFFSET past its length check (44_drbg_helpers.md R125). -/
theorem exec_diagOffset_inRange {s : State} (h : s.a1.toNat ≤ 2 ^ 32) :
    exec .diagOffset s = .next (s.dinRead s.a1.toNat fun d s1 =>
      s1.answer 0x30 ((deriveOffset d s.a0).setWidth 64)) :=
  congrArg _ (if_neg h.not_gt)

/-- Settles O59: the length check, then DinRead's two cases. -/
theorem diagOffsetReportsOffset : Obligations.DiagOffsetReportsOffset := by
  refine fun s => ⟨fun hlong => congrArg _ (if_pos hlong), fun h hshort => ?_, fun d h htaken hlen => ?_⟩
  · rw [exec_diagOffset_inRange h, State.dinRead_short hshort]
  · subst htaken
    rw [exec_diagOffset_inRange h, State.dinRead_taken hlen, State.answer_eq, State.complete_eq_completed]

/-- DIAG_REMIX reads its window first (44_drbg_helpers.md R126). -/
theorem exec_diagRemix (s : State) :
    exec .diagRemix s = .next (s.dinRead 25 fun w s1 => s1.emit 0x31 (remix w)) := rfl

/-- Settles O60: DinRead's two cases; the remix of 25 bytes is not empty, so it goes on offer. -/
theorem diagRemixEmitsRemix : Obligations.DiagRemixEmitsRemix := by
  refine fun s => ⟨fun hshort => ?_, fun w htaken hlen => ?_⟩
  · rw [exec_diagRemix, State.dinRead_short hshort]
  · subst htaken
    have hne : remix s.dinTaken ≠ [] := List.ne_nil_of_length_pos (by rw [remix_length, hlen]; decide)
    rw [exec_diagRemix, State.dinRead_taken hlen, State.emit_offers hne]

end Sys2Proof.Machine
end

section
/-! SUPPORT. Whole-machine rules: what every step keeps, how a command completes with an error, and which commands are apart
from the DRBG registers (60_exceptions.md R128, R129, R136, R139). -/

namespace Sys2Proof.Machine

/-! ### Parameters and the number of slots -/

/-- `t` belongs to the same implementation as `s`: the parameters and NCTX (00_scope.md R8) are the same. -/
structure State.SameBuild (s t : State) : Prop where
  params : t.params = s.params
  slots : t.slots.length = s.slots.length

section Moves

variable {s : State}

/-- Every command answers a next state (60_exceptions.md R132). -/
theorem exec_answers (i : Instr) (s : State) : ∃ t, exec i s = .next t := by
  generalize ho : exec i s = o
  cases ho ▸ exec_does i s with
  | rejects | rebuilds | waits | waitsRebuilt | ends => exact ⟨_, rfl⟩

theorem exec_sameBuild {i : Instr} {t : State} (h : exec i s = .next t) : s.SameBuild t :=
  ⟨exec_params h, exec_slots_length h⟩

theorem State.runCommand_sameBuild (s : State) : ∃ t, s.runCommand = .next t ∧ s.SameBuild t := by
  rcases hd : decode s.cmd with e | i
  · exact ⟨_, State.runCommand_error hd, rfl, rfl⟩
  · obtain ⟨t, h⟩ := exec_answers i s
    exact ⟨t, (State.runCommand_ok hd).trans h, exec_sameBuild h⟩

theorem State.dinTransfer_sameBuild (taken : List Byte) (need : Nat) : s.SameBuild (s.dinTransfer taken need) := by
  rcases s.dinTransfer_cases taken need with ⟨d, rest, -, -, e⟩ | ⟨-, e⟩ <;> rw [e] <;> exact ⟨rfl, rfl⟩

theorem State.doutTransfer_sameBuild (rest : List Byte) (done : Completion) :
    s.SameBuild (s.doutTransfer rest done) := by
  rcases s.doutTransfer_cases rest done with ⟨-, e⟩ | ⟨-, e⟩ <;> rw [e] <;> exact ⟨rfl, rfl⟩

theorem State.engineMove_sameBuild (s : State) : ∃ t, s.engineMove = .next t ∧ s.SameBuild t := by
  rcases s.engineMove_cases with ⟨-, e⟩ | ⟨-, -, e⟩ | ⟨-, taken, need, -, e⟩ | ⟨-, rest, done, -, e⟩ <;> rw [e]
  · exact ⟨s, rfl, rfl, rfl⟩
  · exact s.runCommand_sameBuild
  · exact ⟨_, rfl, State.dinTransfer_sameBuild taken need⟩
  · exact ⟨_, rfl, State.doutTransfer_sameBuild rest done⟩

/-- RST gives back the slots it finds, each of them free (70_reset_and_hazards.md R142). -/
theorem State.assertRst_sameBuild (s : State) : s.SameBuild s.assertRst := ⟨rfl, List.length_replicate⟩

theorem State.hostMove_sameBuild (s : State) (a : HostAction) : s.SameBuild (s.hostMove a) := by
  cases a with
  | writeCmd w =>
    simp only [State.hostMove, State.writeCmd]
    split_ifs <;> exact ⟨rfl, rfl⟩
  | writeArg n v =>
    simp only [State.hostMove]
    split_ifs
    · exact ⟨rfl, rfl⟩
    · match n with
      | 0 | 1 | 2 => exact ⟨rfl, rfl⟩
  | readReg | offerDin | takeDout => exact ⟨rfl, rfl⟩
  | setRst level =>
    cases level with
    | false => exact ⟨rfl, rfl⟩
    | true => exact s.assertRst_sameBuild

end Moves

/-- Settles O15: a step is a host action or a move of the engine, and each of them keeps the parameters and the slot count. -/
theorem parametersNeverChange : Obligations.ParametersNeverChange := by
  intro s
  rcases step_cases s with ⟨a, ts, -, e⟩ | ⟨-, e⟩ <;> rw [e]
  · obtain ⟨hparams, hslots⟩ := State.hostMove_sameBuild { s with turns := ts } a
    exact ⟨_, rfl, hparams, hslots⟩
  · obtain ⟨t, h, hparams, hslots⟩ := State.engineMove_sameBuild { s with turns := s.turns.tail }
    exact ⟨t, h, hparams, hslots⟩

/-! ### Completion with an error -/

/-- The DRBG registers a command word leaves when it completes with an error: untouched, but for the two exceptions of
60_exceptions.md R129. -/
inductive Drbg.AfterError (s : State) : Status → Drbg → Prop where
  | keeps {e : Status} (ni : e ≠ .internalAbsorb) (nr : decode s.cmd = .ok .drbgReset → e ≠ .validation) :
      Drbg.AfterError s e s.drbg
  /-- DRBG_RESET's ERR_VALIDATION comes after its rebuild of DLIVE. -/
  | rebuilds (h : decode s.cmd = .ok .drbgReset) : Drbg.AfterError s .validation s.rebuildLive.drbg
  /-- ERR_INTERNAL_ABSORB comes with DestroyInstance. -/
  | destroys : Drbg.AfterError s .internalAbsorb Drbg.destroyed

section Errors

variable {i : Instr} {s t : State}

/-- An output that completes at once is empty. -/
theorem State.doutWrite_eq_complete_of_idle {b : List Byte} {done : Completion}
    (h : (s.doutWrite b done).phase = .idle) : s.doutWrite b done = s.complete done := by
  rcases eq_or_ne b [] with rfl | hb
  · rfl
  · rw [State.doutWrite_offers hb] at h; cases h

/-- A command that completes with an error writes its completion and the DRBG registers of `Drbg.AfterError`, nothing else. -/
theorem exec_completes_error (hi : decode s.cmd = .ok i) (h : exec i s = .next t) (hidle : t.phase = .idle)
    (herr : t.err ≠ .ok) :
    ∃ e d, Drbg.AfterError s e d ∧ t = State.completed { s with drbg := d } i.opcode e 0 := by
  cases exec_next_does h with
  | rejects e _ ni nr =>
    exact ⟨e, s.drbg, .keeps ni fun hr => nr (Except.ok.inj (hi.symm.trans hr)), rfl⟩
  | rebuilds hr => exact ⟨.validation, _, .rebuilds (hr ▸ hi), rfl⟩
  | waits | waitsRebuilt => cases hidle
  | ends slots drbg b done _ he =>
    rw [State.doutWrite_eq_complete_of_idle hidle] at herr ⊢
    rcases he.err with hok | ⟨hfail, hresult, rfl, rfl, -⟩
    · exact absurd hok herr
    · refine ⟨.internalAbsorb, _, .destroys, ?_⟩
      rw [State.complete_eq_completed, he.opcode, hfail, hresult]
      rfl

/-- A command word, legal or not, that completes with an error records its opcode field and RESULT = 0
(60_exceptions.md R128). -/
theorem State.runCommand_completes_error (h : s.runCommand = .next t) (hidle : t.phase = .idle) (herr : t.err ≠ .ok) :
    ∃ e d, Drbg.AfterError s e d ∧ t = State.completed { s with drbg := d } (opcField s.cmd) e 0 := by
  rcases hd : decode s.cmd with e | i
  · rw [State.runCommand_error hd] at h
    cases h
    exact ⟨.illegalCmd, s.drbg, .keeps nofun nofun, rfl⟩
  · rw [State.runCommand_ok hd] at h
    obtain ⟨hopc, -⟩ := decode_ok_iff.mp hd
    rw [hopc]
    exact exec_completes_error hd h hidle herr

end Errors

section AfterError

variable {s : State} {e : Status} {d : Drbg}

theorem Drbg.AfterError.eq_destroyed (h : Drbg.AfterError s e d) (he : e = .internalAbsorb) : d = Drbg.destroyed := by
  cases h with
  | keeps ni => exact absurd he ni
  | rebuilds => cases he
  | destroys => rfl

theorem Drbg.AfterError.eq_rebuilt (h : Drbg.AfterError s e d) (hr : decode s.cmd = .ok .drbgReset)
    (he : e = .validation) : d = s.rebuildLive.drbg := by
  cases h with
  | keeps _ nr => exact absurd he (nr hr)
  | rebuilds => rfl
  | destroys => cases he

theorem Drbg.AfterError.eq_kept (h : Drbg.AfterError s e d) (ni : e ≠ .internalAbsorb)
    (nr : ¬(decode s.cmd = .ok .drbgReset ∧ e = .validation)) : d = s.drbg := by
  cases h with
  | keeps => rfl
  | rebuilds hr => exact absurd ⟨hr, rfl⟩ nr
  | destroys => exact absurd rfl ni

end AfterError

/-- Settles O16: the next state is a completion (`State.runCommand_completes_error`), so every field but the DRBG registers is
read off, and `Drbg.AfterError` tells these. -/
theorem errorsLeaveStateAsItWas : Obligations.ErrorsLeaveStateAsItWas := by
  intro s t h hidle herr
  obtain ⟨e, d, hd, rfl⟩ := State.runCommand_completes_error h hidle herr
  exact ⟨rfl, rfl, rfl, rfl, rfl, rfl, rfl, rfl, rfl, rfl, rfl, rfl, rfl, rfl, rfl, rfl, hd.eq_destroyed, hd.eq_kept,
    hd.eq_rebuilt⟩

/-! ### The DRBG registers and the other commands -/

/-- Settles O19: outside the DRBG's opcodes the registers are an update no command sees, and only a DRBG command writes them. -/
theorem drbgIsIndependentOfSlots : Obligations.DrbgIsIndependentOfSlots := by
  intro i d s t hi h
  have hdrbg : ¬(0x20 ≤ i.opcode.toNat ∧ i.opcode.toNat < 0x30) := by omega
  exact ⟨exec_unseen (unseen_withDrbg hdrbg d) h, (exec_drbg h).resolve_right hdrbg⟩

end Sys2Proof.Machine
end

section
/-! SUPPORT. RST (70_reset_and_hazards.md R142), and DIN bytes that arrive in portions (70_reset_and_hazards.md R147). -/

namespace Sys2Proof.Machine

/-! ### RST -/

/-- Settles O9: on a host turn the step is the host's action, and `State.assertRst` writes the listed values. -/
theorem rstAbandonsEverything : Obligations.RstAbandonsEverything := fun _ _ h => step_host h

/-! ### DIN in portions -/

/-- `s` once the host has offered `d` too, its turn used up. -/
def State.offered (s : State) (d : List Byte) : State := { s with dinOffer := s.dinOffer ++ d, turns := [] }

/-- `s` once the engine has taken what was on offer and `d`, fewer bytes than the `need` it waits for. -/
def State.tookPortion (s : State) (taken : List Byte) (need : Nat) (d : List Byte) : State :=
  { s with phase := .dataIn (taken ++ (s.dinOffer ++ d)) (need - (s.dinOffer ++ d).length), dinOffer := [], turns := [] }

section Portions

variable {s : State} {taken d : List Byte} {need : Nat}

/-- In DATA_IN, an offer of `d` and a move of the engine are the DIN handshake with `d` on offer. -/
theorem State.takeTurns_offer (hr : s.rst = false) (hp : s.phase = .dataIn taken need) (d : List Byte)
    (ts : List Turn) :
    s.takeTurns (.host (.offerDin d) :: .engine :: ts) = ((s.offered d).dinTransfer taken need).takeTurns ts := by
  have hoffer : s.takeTurn (.host (.offerDin d)) = .next (s.offered d) :=
    step_host (s := { s with turns := [.host (.offerDin d)] }) rfl
  have htake : (s.offered d).takeTurn .engine = .next ((s.offered d).dinTransfer taken need) :=
    step_dataIn hr hp (.inr ⟨[], rfl⟩)
  simp only [State.takeTurns, hoffer, htake, andThen]

theorem State.dinTransfer_offered (hd : (s.dinOffer ++ d).length < need) :
    (s.offered d).dinTransfer taken need = s.tookPortion taken need d :=
  State.dinTransfer_part hd

/-- Taking `d ++ e` at once is taking `d`, which is not all that is missing, and then `e`. -/
theorem State.dinTransfer_offered_append (hd : (s.dinOffer ++ d).length < need) (e : List Byte) :
    (s.offered (d ++ e)).dinTransfer taken need =
      ((s.tookPortion taken need d).offered e).dinTransfer (taken ++ (s.dinOffer ++ d))
        (need - (s.dinOffer ++ d).length) := by
  have hoffer : (s.offered (d ++ e)).dinOffer = s.dinOffer ++ d ++ e := (List.append_assoc ..).symm
  rcases ((s.tookPortion taken need d).offered e).dinTransfer_cases (taken ++ (s.dinOffer ++ d))
    (need - (s.dinOffer ++ d).length) with ⟨f, rest, he, hf, heq⟩ | ⟨hshort, heq⟩ <;> rw [heq]
  · replace he : e = f ++ rest := he
    have hall : (s.dinOffer ++ d ++ f).length = need := by rw [List.length_append, hf]; omega
    rw [State.dinTransfer_all (by rw [hoffer, he, ← List.append_assoc]) hall, ← List.append_assoc taken]
    rfl
  · replace hshort : e.length < need - (s.dinOffer ++ d).length := hshort
    have hpart : (s.offered (d ++ e)).dinOffer.length < need := by rw [hoffer, List.length_append]; omega
    rw [State.dinTransfer_part hpart, hoffer, List.length_append, ← Nat.sub_sub, ← List.append_assoc taken]
    rfl

/-- A portion that is not all that is missing may as well arrive with the next one. -/
theorem State.takeTurns_tookPortion (hr : s.rst = false) (hp : s.phase = .dataIn taken need)
    (hd : (s.dinOffer ++ d).length < need) (e : List Byte) :
    (s.tookPortion taken need d).takeTurns [.host (.offerDin e), .engine] =
      s.takeTurns [.host (.offerDin (d ++ e)), .engine] := by
  rw [State.takeTurns_offer (s := s.tookPortion taken need d) hr rfl, State.takeTurns_offer hr hp,
    State.dinTransfer_offered_append hd]

end Portions

/-- Settles O21: induction on the portions before the last; each is taken whole and leaves the engine waiting for the rest, as
if it had come with the next one (`State.takeTurns_tookPortion`). -/
theorem dinArrivalDoesNotMatter : Obligations.DinArrivalDoesNotMatter := by
  intro s taken need portions last hr hp hlt
  induction portions generalizing s taken need with
  | nil => rfl
  | cons d ds ih =>
    rw [List.flatten_cons, ← List.append_assoc, List.length_append] at hlt
    have hd : (s.dinOffer ++ d).length < need := by omega
    calc s.takeTurns ((d :: ds ++ [last]).flatMap fun p => [.host (.offerDin p), .engine])
        = ((s.offered d).dinTransfer taken need).takeTurns
            ((ds ++ [last]).flatMap fun p => [.host (.offerDin p), .engine]) := State.takeTurns_offer hr hp d _
      _ = (s.tookPortion taken need d).takeTurns ((ds ++ [last]).flatMap fun p => [.host (.offerDin p), .engine]) := by
          rw [State.dinTransfer_offered hd]
      _ = (s.tookPortion taken need d).takeTurns [.host (.offerDin (ds.flatten ++ last)), .engine] :=
          ih _ _ _ hr rfl (Nat.lt_sub_iff_add_lt'.mpr hlt)
      _ = s.takeTurns [.host (.offerDin ((d :: ds).flatten ++ last)), .engine] := by
          rw [State.takeTurns_tookPortion hr hp hd, List.flatten_cons, List.append_assoc]

end Sys2Proof.Machine
end
